-- ==== Sys2Proof/Word.lean ====
section
/-! DEFINITION. The word types of the ZP420: bytes and 32-bit words (11_record_layouts.md 11.1). -/

namespace Sys2Proof

/-- A byte of a line. -/
abbrev Byte := BitVec 8

/-- A word: 4 bytes on a 4-byte address (Table 0-4); bits 7:0 lie at its lowest address (11.1). -/
abbrev Word := BitVec 32

end Sys2Proof
end

