-- ==== Sys2Proof/Config.lean ====
section
/-! DEFINITION. What the part fixes once, and the free value of the model. -/

namespace Sys2Proof.Config

/-- Places of the Posted Write Queue (R110). -/
def pwqPlaces : Nat := 16

/-- Places of the Report Queue (R187). -/
def reportPlaces : Nat := 16

/-- The occupied count at which FIXED mode puts drains first (R128). -/
def highWater : Nat := 12

/-- The filter depth before the first station record (R135). -/
def resetFilterDepth : Nat := 64

/-- The size of the plan area and of a plan slot in bytes (R168). -/
def planBytes : Nat := 8192
def slotBytes : Nat := 256

/-- The largest value the idle timer is kept at (Table 8-1: 0..255000 ms). DESIGN CHOICE (log entry 18): with a lamp
idle time of 0 the timer never expires (R151) and stands at this value. -/
def idleTimerMax : Nat := 255000

/-- The order in which the part takes events of one CLK cycle, and internal steps that are possible together. The spec
leaves it open ("in either order": R136, R140, R156, R164, R182). A FREE VALUE: no body, applied to the draw counter of
State (log entry 2). -/
opaque order : Nat → Nat

/-- The level that a raw stage input stands at when it is sampled: for a draw and an input number (0 to 3 the encoder
lines of X and Y, 4 and 5 the home lines, 6 CUT). The spec leaves the levels of pins to the outside. A FREE VALUE: no body
(log entries 2 and 14). -/
opaque rawLevel : Nat → Nat → Bool

end Sys2Proof.Config
end

