-- ==== Sys2Proof/Syntax.lean ====
section
/-! DEFINITION. The commands of the ZP420: one constructor per row of spec/opcode_table.json, with the row's operands. -/

namespace Sys2Proof

/-- The station masters 0..3 (Table 0-4). -/
abbrev Master := Fin 4

/-- A beat of a write: a word and its 4 byte enables; enable j covers bits 8j+7..8j (R195). -/
structure Beat where
  data : Word
  be : BitVec 4
  deriving DecidableEq, Repr

/-- An upstream write request (Table 5-1); beat i is the word at address + 4 × i. -/
structure WriteReq where
  master : Master
  addr : BitVec 32
  beats : List Beat
  deriving DecidableEq, Repr

/-- An upstream read request (Table 5-1). -/
structure ReadReq where
  master : Master
  addr : BitVec 32
  beats : Nat
  deriving DecidableEq, Repr

/-- A request of either direction. -/
inductive Request where
  | read (r : ReadReq)
  | write (w : WriteReq)
  deriving DecidableEq, Repr

/-- The status of a downstream response (R122, Table 11-10). -/
inductive DownStatus where
  | ok
  | fault
  deriving DecidableEq, Repr

/-- The identifier of a downstream transaction (Table 6-2). -/
inductive Ident where
  | master (m : Master)
  | fetch
  | drain
  deriving DecidableEq, Repr

/-- The two stage axes. -/
inductive Axis where
  | x
  | y
  deriving DecidableEq, Repr

/-- The two lines of an encoder pair (7.3). -/
inductive EncLine where
  | a
  | b
  deriving DecidableEq, Repr

/-- The raw levels of the seven stage inputs (R134); true is high. -/
structure StageLines where
  xa : Bool
  xb : Bool
  ya : Bool
  yb : Bool
  homeX : Bool
  homeY : Bool
  cut : Bool
  deriving DecidableEq, Repr

/-- The commands. A constructor stands for the row of spec/opcode_table.json whose name is its own in capitals. -/
inductive Instr where
  /-- POWER_ON_RESET: release of RESETN, with the raw stage levels (R135) and the straps (R168) read there. -/
  | powerOnReset (lines : StageLines) (straps : BitVec 12)
  | upstreamRequestFault (r : Request)
  | post (w : WriteReq)
  | withdrawal (w : WriteReq)
  | consume (w : WriteReq)
  | capture (w : WriteReq)
  | heldWrite (w : WriteReq)
  | heldRead (r : ReadReq)
  | plainWrite (w : WriteReq)
  | plainRead (r : ReadReq)
  | heldWriteEntry
  | arbiterGrant
  | drainRetireOk
  | drainRetireFault
  | upstreamReadResponse (m : Master) (st : DownStatus) (data : List Word)
  | fetchResponse (st : DownStatus) (data : List Word)
  | unmatchedResponse (id : Ident) (st : DownStatus) (data : List Word)
  | station
  | plate
  | retake
  | dismiss
  | dismissReservation
  | resultWordEntry
  | recordLineEntry
  | headerLineEntry
  | arming
  | periodEnd
  | settleExpiry
  | triggerPulseEnd
  | deferredTrigger
  | exposureTimerExpiry
  | holdTimerExpiry (m : Master)
  | validTransition (ax : Axis) (line : EncLine)
  | invalidTransition (ax : Axis)
  | homeEdge (ax : Axis)
  | dwellExpiry
  | cutRise
  | cutFall
  | idleTimerExpiry
  | heatTick
  | fallingHomeEdge (ax : Axis)
  deriving DecidableEq, Repr

end Sys2Proof
end

