-- ==== Sys2Proof/WellFormed.lean ====
section
/-! DEFINITION. Which commands have the shape that their row and Tables 5-1, 11-9 and 11-10 give them. The check looks
at the command alone; what the part does with it is the machine's. -/

namespace Sys2Proof

/-- R98's test on address and beat count: word aligned, and within the line of the first beat. -/
def fitsLine (addr : BitVec 32) (beats : Nat) : Bool :=
  addr.toNat % 4 == 0 && addr.toNat % 32 + 4 * beats ≤ 32

/-- The request has 1..8 beats (Table 5-1). -/
def beatsInRange (n : Nat) : Bool := 1 ≤ n && n ≤ 8

def WriteReq.wellFormed (w : WriteReq) : Bool :=
  beatsInRange w.beats.length && fitsLine w.addr w.beats.length

def ReadReq.wellFormed (r : ReadReq) : Bool :=
  beatsInRange r.beats && fitsLine r.addr r.beats

/-- A full-word beat (R103) at an address that is `off` above a multiple of `m`, whose value `p` accepts. -/
def WriteReq.hasFullBeat (w : WriteReq) (m off : Nat) (p : Word → Bool) : Bool :=
  w.beats.zipIdx.any fun (b, i) =>
    (w.addr.toNat + 4 * i) % m == off && b.be == 15#4 && p b.data

/-- The shape of each row's operands. Rows without operands have one shape. -/
def WellFormed : Instr → Bool
  | .powerOnReset _ _ => true
  | .upstreamRequestFault (.read r) => beatsInRange r.beats && !fitsLine r.addr r.beats
  | .upstreamRequestFault (.write w) => beatsInRange w.beats.length && !fitsLine w.addr w.beats.length
  | .post w => w.wellFormed && w.hasFullBeat 256 252 (· != 0)
  | .withdrawal w => w.wellFormed && w.hasFullBeat 256 252 (· == 0)
  | .consume w => w.wellFormed && w.hasFullBeat 32 4 (fun _ => true)
  | .capture w => w.wellFormed
  | .heldWrite w => w.wellFormed
  | .heldRead r => r.wellFormed
  | .plainWrite w => w.wellFormed
  | .plainRead r => r.wellFormed
  | .heldWriteEntry => true
  | .arbiterGrant => true
  | .drainRetireOk => true
  | .drainRetireFault => true
  | .upstreamReadResponse _ st data => st == .fault || beatsInRange data.length
  | .fetchResponse st data => st == .fault || data.length == 8
  | .unmatchedResponse _ st data => st == .fault || data.length ≤ 8
  | .station => true
  | .plate => true
  | .retake => true
  | .dismiss => true
  | .dismissReservation => true
  | .resultWordEntry => true
  | .recordLineEntry => true
  | .headerLineEntry => true
  | .arming => true
  | .periodEnd => true
  | .settleExpiry => true
  | .triggerPulseEnd => true
  | .deferredTrigger => true
  | .exposureTimerExpiry => true
  | .holdTimerExpiry _ => true
  | .validTransition _ _ => true
  | .invalidTransition _ => true
  | .homeEdge _ => true
  | .dwellExpiry => true
  | .cutRise => true
  | .cutFall => true
  | .idleTimerExpiry => true
  | .heatTick => true
  | .fallingHomeEdge _ => true

end Sys2Proof
end

