-- ==== Sys2Proof/Machine/State.lean ====
section
/-! DEFINITION. The state of the ZP420: one structure per block of Table 0-2, each field named after the state item of
its chapter's state table. All plain data. -/

namespace Sys2Proof.Machine

/-! ## Tables of Assembly Control (02) -/

/-- An entry number of the Tile Table (R27): the tile's name inside the part. -/
abbrev TileNo := Fin 64

/-- A Plate Table slot (R25). -/
abbrev SlotNo := Fin 4

/-- A hold of the Hold Pool (R76). -/
abbrev HoldNo := Fin 16

/-- A plan slot (R168). -/
abbrev PlanSlot := Fin 32

/-- Reasons of aborts and failures (Table 3-3, Table 11-8). -/
inductive Reason where
  | motion
  | timeout
  | encoder
  | heat
  | homed
  | memory
  deriving DecidableEq, Repr

/-- The closing outcome (Table 2-3); FAILED carries a fault reason. -/
inductive ClosingOutcome where
  | done
  | failed (r : Reason)
  | discarded
  deriving DecidableEq, Repr

/-- Tile states of a non-FREE entry (Table 2-3). CLOSING carries the outcome and the closing heat, FAILED the fault
reason: the fields that are present in that state alone. -/
inductive TileState where
  | pending
  | armed
  | settling
  | exposing
  | closing (outcome : ClosingOutcome) (heat : Option Nat)
  | done
  | failed (r : Reason)
  deriving DecidableEq, Repr

/-- A non-FREE Tile Table entry (Table 2-3). -/
structure Tile where
  slot : SlotNo
  index : Nat
  row : Nat
  col : Nat
  state : TileState
  expIndex : Nat
  retries : Nat
  heatWaits : Nat
  stats : List (Nat × Nat)
  skipped : Bool
  damaged : Bool
  reservation : Nat
  deriving DecidableEq, Repr

/-- One exposure of a bracket (Table 1-3). -/
structure Exposure where
  duty : Nat
  step : Nat
  clip : Nat
  floor : Nat
  deriving DecidableEq, Repr

/-- The geometry fields of Table 1-1. -/
structure Geometry where
  rows : Nat
  cols : Nat
  width : Nat
  height : Nat
  top : Nat
  bottom : Nat
  left : Nat
  right : Nat
  imageBase : Nat
  pitch : Nat
  deriving DecidableEq, Repr

/-- Hold policy (Table 0-4). -/
inductive Policy where
  | wait
  | pass
  deriving DecidableEq, Repr

/-- States of a non-FREE Plate Table slot (Table 2-2). DISMISSING carries the counts of tiles DONE and FAILED read at
the DISMISS take (R46). -/
inductive PlateState where
  | assembling
  | complete
  | dismissing (done failed : Nat)
  deriving DecidableEq, Repr

/-- A non-FREE Plate Table slot (Table 2-1). -/
structure Plate where
  state : PlateState
  tag : Word
  geo : Geometry
  bracket : List Exposure
  originX : BitVec 24
  originY : BitVec 24
  pitchX : BitVec 24
  pitchY : BitVec 24
  tolerance : Nat
  retryLimit : Nat
  policy : Policy
  proofBase : Option Nat
  bandHolds : List (Option HoldNo)
  tiles : List TileNo
  tilesDone : Nat
  tilesFailed : Nat
  dismissReserved : Bool
  deriving DecidableEq, Repr

/-- Plate Table and Tile Table; `none` is FREE (R25, R27: a FREE place holds no field). -/
structure Assembly where
  plates : Vector (Option Plate) 4
  tiles : Vector (Option Tile) 64
  deriving DecidableEq, Repr

/-! ## Merge Unit (Table 1-5) -/

inductive FrameState where
  | opened
  | closed
  deriving DecidableEq, Repr

/-- Merge Unit state; its current tile is the sequencer's (R9, R50). `lastCarrier` names the entry by its ordinal. -/
structure Merge where
  frame : FrameState
  exposure : Nat
  counter : Nat
  dark : Nat
  clip : Nat
  stray : Nat
  lastCarrier : Option Nat
  deriving DecidableEq, Repr

/-! ## Posted Write Queue (Table 5-5) -/

inductive Source where
  | upstream
  | merge
  | plan
  | report
  deriving DecidableEq, Repr

/-- The bytes of one line; `none` is a byte whose enable is clear. -/
abbrev LineBytes := Vector (Option Byte) 32

inductive EntryState where
  | waiting
  | draining
  deriving DecidableEq, Repr

/-- A PWQ entry. `id` is its ordinal in creation order (log entry 16). `header` is the produce index carried by the last
header write of the current ring that entered the entry (R190). -/
structure Entry where
  id : Nat
  line : Nat
  bytes : LineBytes
  source : Source
  tileRef : Option TileNo
  fence : Option TileNo
  state : EntryState
  header : Option Nat
  deriving DecidableEq, Repr

/-- The queue, head first (R110). -/
structure Pwq where
  entries : List Entry
  nextId : Nat
  deriving DecidableEq, Repr

/-! ## Upstream Port (Table 5-3) and the reads on their way -/

/-- The two sides of tail admission (R113). -/
inductive Side where
  | upstream
  | report
  deriving DecidableEq, Repr

/-- The class of a write (Table 5-4); POST and CONSUME carry what is handed over at decode (R104, R105). -/
inductive WriteClass where
  | post (slot : PlanSlot) (value : Word)
  | consume (value : Word)
  | capture
  | heldWrite
  | plain
  deriving DecidableEq, Repr

/-- The held write: a decoded write with its class (R101). -/
structure HeldWrite where
  req : WriteReq
  cls : WriteClass
  deriving DecidableEq, Repr

/-- The status of an upstream answer (Table 5-2). -/
inductive Status where
  | ok
  | stale
  | fault
  deriving DecidableEq, Repr

/-- An answer given to a master, with read data for a read answered OK or STALE. -/
structure Answer where
  master : Master
  status : Status
  data : List Word
  deriving DecidableEq, Repr

/-- Upstream Port. `answers` is the model's record of the answers given, oldest first (log entry 7). -/
structure Port where
  outstanding : Vector Bool 4
  held : Option HeldWrite
  turn : Side
  answers : List Answer
  deriving DecidableEq, Repr

/-- A read sent toward memory; `stale` is the answer decided for it (R88): OK, or STALE. -/
structure PortRead where
  master : Master
  addr : BitVec 32
  beats : Nat
  stale : Bool
  deriving DecidableEq, Repr

/-- A read waiting for the entries of its snapshot (R114), named by their ordinals. -/
structure WaitingRead where
  read : PortRead
  snapshot : List Nat
  deriving DecidableEq, Repr

/-- Upstream reads: waiting for their snapshots in the order they were taken, the READ class list in order of
eligibility (R124), and the reads outstanding downstream (R122). -/
structure Reads where
  waiting : List WaitingRead
  ready : List PortRead
  out : List PortRead
  deriving DecidableEq, Repr

/-! ## Downstream Port and Arbiter (Table 6-1) -/

inductive ArbClass where
  | read
  | drain
  | fetch
  deriving DecidableEq, Repr

inductive ArbMode where
  | fixed
  | rotate
  deriving DecidableEq, Repr

/-- The fetch read of the slot being taken, by its line number (R125): presented and waiting for its snapshot, the FETCH
class request, or outstanding. `deferred`: line 7 is not presented yet because the post write is held (R173). -/
inductive Fetch where
  | idle
  | deferred
  | waiting (line : Fin 8) (snapshot : List Nat)
  | ready (line : Fin 8)
  | outstanding (line : Fin 8)
  deriving DecidableEq, Repr

/-- A downstream transaction (Table 6-2). Every WRITE is a drain (R121). -/
inductive Txn where
  | read (id : Ident) (addr : Nat) (beats : Nat)
  | write (addr : Nat) (beats : List Beat)
  deriving DecidableEq, Repr

/-- Arbiter and Downstream Port. `accept`: the memory controller can accept a transaction and none was granted yet (R127,
log entry 19). `issued` is the model's record of the transactions issued, oldest first (log entry 7). -/
structure Down where
  rotation : ArbClass
  accept : Bool
  fetch : Fetch
  issued : List Txn
  deriving DecidableEq, Repr

/-! ## Bracket Sequencer (Table 3-1) -/

/-- A running timer: its value in ticks and the length it was started with (R50: a new length applies from the next
start). -/
structure Timer where
  value : Nat
  limit : Nat
  deriving DecidableEq, Repr

/-- The sequencer is BUSY exactly when it has a current tile (R50). A timer is `none` when stopped. -/
structure Seq where
  current : Option TileNo
  settleTimer : Option Timer
  pulseTimer : Option Timer
  deferred : Bool
  expTimer : Option Timer
  captureHeld : Bool
  trig : Bool
  moveok : Bool
  deriving DecidableEq, Repr

/-! ## Hold Unit (Table 4-1) -/

/-- A HELD hold: plate slot, band address range and policy (R76). The range is base and length. -/
structure Hold where
  slot : SlotNo
  base : Nat
  size : Nat
  policy : Policy
  deriving DecidableEq, Repr

/-- A place of the Held-Read Queue (R85). -/
structure HeldRead where
  master : Master
  addr : BitVec 32
  beats : Nat
  hold : HoldNo
  timer : Timer
  deriving DecidableEq, Repr

structure HoldUnit where
  pool : Vector (Option Hold) 16
  queue : List HeldRead
  deriving DecidableEq, Repr

/-! ## Stage Position Unit (Table 7-1) -/

/-- One input filter: the raw level of its pin, the filtered level and the run count (R134). -/
structure Filter where
  raw : Bool
  level : Bool
  run : Nat
  deriving DecidableEq, Repr

/-- The watched target and tolerance (R143). -/
structure Watched where
  x : BitVec 24
  y : BitVec 24
  tolerance : Nat
  deriving DecidableEq, Repr

/-- `dwell` is `none` when the timer has expired, that is when the stage is settled (R141). -/
structure Stage where
  xa : Filter
  xb : Filter
  ya : Filter
  yb : Filter
  homeX : Filter
  homeY : Filter
  cut : Filter
  refX : Bool × Bool
  refY : Bool × Bool
  posX : BitVec 24
  posY : BitVec 24
  dwell : Option Nat
  watched : Option Watched
  deriving DecidableEq, Repr

/-- The settled condition (R141). -/
def Stage.settled (g : Stage) : Bool := g.dwell.isNone

/-! ## Lamp Drive (Table 8-1) -/

inductive Zone where
  | cool
  | warm
  deriving DecidableEq, Repr

/-- `fromTile`: the requested duty came from line 2 of Table 8-2 (R152). `period`: the length of the running PWM period
(R157). -/
structure Lamp where
  on : Bool
  requested : Nat
  fromTile : Bool
  applied : Nat
  counter : Nat
  period : Nat
  idleTimer : Nat
  heat : Nat
  zone : Zone
  out : Bool
  deriving DecidableEq, Repr

/-! ## Plan Reader (Table 9-1) -/

/-- The settings of an accepted station record (Table 9-4). -/
structure Station where
  divisor : Nat
  captureMaster : Master
  windowBase : Nat
  windowLength : Nat
  reportBase : Nat
  capacity : Nat
  mode : ArbMode
  prescale : Nat
  pwmPeriod : Nat
  idleDuty : Nat
  idleTime : Nat
  decay : Nat
  warmHigh : Nat
  warmLow : Nat
  settleTime : Nat
  pulse : Nat
  expTimeout : Nat
  holdTimeout : Nat
  dwell : Nat
  filterDepth : Nat
  deriving DecidableEq, Repr

/-- The plan record kinds (Table 9-2). -/
inductive Kind where
  | station
  | plate
  | retake
  | dismiss
  deriving DecidableEq, Repr

/-- Where a take stands: FETCHING, the fetch complete and the record to be processed, WAITING_RESERVATION, or ended but
for its result word, which waits to enter the PWQ (R172, R176, R182). -/
inductive TakeStep where
  | fetching
  | fetched
  | waitingReservation
  | finished (result : Word)
  deriving DecidableEq, Repr

/-- The take in progress: slot, step, the post word and kind once line 7 was read, and the record words fetched. -/
structure Take where
  slot : PlanSlot
  step : TakeStep
  post : Option Word
  body : List Word
  deriving DecidableEq, Repr

/-- Plan Reader; the station is CONFIGURED exactly when it has settings. -/
structure Plan where
  posted : Vector Bool 32
  takeIndex : PlanSlot
  take : Option Take
  station : Option Station
  deriving DecidableEq, Repr

/-! ## Report Writer (Table 10-2) -/

/-- Causes of STALE_READ (R95). -/
inductive StaleCause where
  | pass
  | timeout
  | dismiss
  deriving DecidableEq, Repr

/-- A pending report record with the fields of Table 11-8. -/
inductive Record where
  | tileDone (slot : SlotNo) (index : Nat) (tag : Word) (taken : Nat) (skipped : Bool) (retries heatWaits : Nat)
      (stats : List (Nat × Nat)) (heat : Nat)
  | tileFault (slot : SlotNo) (index : Nat) (tag : Word) (expIndex : Nat) (reason : Reason) (retries : Nat)
      (final : Bool)
  | plateDone (slot : SlotNo) (tag : Word) (done failed : Nat)
  | plateDismissed (slot : SlotNo) (tag : Word) (done failed : Nat)
  | staleRead (master : Master) (line : Nat) (cause : StaleCause)
  | writeRefused (master : Master) (line : Nat)
  | strayCapture (count : Nat)
  | cutChange (level : Bool) (heat : Nat)
  | encoderFault (ax : Axis) (pos : BitVec 24)
  | memoryFault (line : Nat) (source : Source)
  deriving DecidableEq, Repr

/-- A line of the ready list (Table 10-2): the record line in hand, the header write in hand (with its line address and
produce index; `live` when it belongs to the current ring, R190), a new header line of a station acceptance, and the Plan
Reader's result word. -/
inductive ReadyLine where
  | record
  | header (base : Nat) (produce : Nat) (live : Bool)
  | newHeader (base : Nat)
  | result
  deriving DecidableEq, Repr

/-- Report Writer. `waits`: the Report Writer side waits for its first ready line (R113, log entry 11). -/
structure Report where
  produce : Nat
  drained : Nat
  consume : Nat
  queue : List Record
  reserved : Nat
  dropped : Bool
  ready : List ReadyLine
  waits : Bool
  irq : Bool
  deriving DecidableEq, Repr

/-! ## Clock and the whole state -/

/-- Progress of the three ticks (00_scope.md 0.6, R178), and the model's draw counter (log entry 2). -/
structure Clock where
  us : Nat
  ms : Nat
  lampDiv : Nat
  draws : Nat
  deriving DecidableEq, Repr

/-- The whole part, and the queue of commands waiting, first in first out. -/
structure State where
  port : Port
  reads : Reads
  pwq : Pwq
  merge : Merge
  asm : Assembly
  seq : Seq
  hold : HoldUnit
  stage : Stage
  lamp : Lamp
  plan : Plan
  down : Down
  report : Report
  clock : Clock
  straps : BitVec 12
  pending : List Instr
  deriving DecidableEq, Repr

/-- No command of this block ends in a fault: the spec names none that stops the part (log entry 20). -/
inductive Fault where
  deriving DecidableEq, Repr

/-- Why a command is refused. -/
inductive Refusal where
  /-- Raised by `exec` for a command that has no meaning yet, none in this package. Safe. -/
  | notModelled (mnemonic : String)
  deriving DecidableEq, Repr

/-- A filter at the release of RESETN (R135). -/
def Filter.load (raw : Bool) : Filter := { raw := raw, level := raw, run := 0 }

/-- The stage unit at the release of RESETN (Table 7-1). -/
def Stage.load (l : StageLines) : Stage :=
  { xa := .load l.xa, xb := .load l.xb, ya := .load l.ya, yb := .load l.yb
    homeX := .load l.homeX, homeY := .load l.homeY, cut := .load l.cut
    refX := (l.xa, l.xb), refY := (l.ya, l.yb)
    posX := 0, posY := 0, dwell := some 0, watched := none }

/-- The part right after a power-on reset that read these line and strap levels: every block's reset column. -/
def State.resetWith (lines : StageLines) (straps : BitVec 12) : State :=
  { port := { outstanding := Vector.replicate 4 false, held := none, turn := .upstream, answers := [] }
    reads := { waiting := [], ready := [], out := [] }
    pwq := { entries := [], nextId := 0 }
    merge := { frame := .closed, exposure := 0, counter := 0, dark := 0, clip := 0, stray := 0, lastCarrier := none }
    asm := { plates := Vector.replicate 4 none, tiles := Vector.replicate 64 none }
    seq := { current := none, settleTimer := none, pulseTimer := none, deferred := false, expTimer := none
             captureHeld := false, trig := false, moveok := true }
    hold := { pool := Vector.replicate 16 none, queue := [] }
    stage := .load lines
    lamp := { on := false, requested := 0, fromTile := false, applied := 0, counter := 0, period := 0, idleTimer := 0
              heat := 0, zone := .cool, out := false }
    plan := { posted := Vector.replicate 32 false, takeIndex := 0, take := none, station := none }
    down := { rotation := .read, accept := false, fetch := .idle, issued := [] }
    report := { produce := 0, drained := 0, consume := 0, queue := [], reserved := 0, dropped := false, ready := []
                waits := false, irq := false }
    clock := { us := 0, ms := 0, lampDiv := 0, draws := 0 }
    straps := straps
    pending := [] }

/-- The stage lines of `State.reset`: all low. DESIGN CHOICE: the spec gives pins no value (log entry 8). -/
def StageLines.low : StageLines :=
  { xa := false, xb := false, ya := false, yb := false, homeX := false, homeY := false, cut := false }

/-- The machine right after reset, with all stage lines low and all straps low (log entry 8). -/
def State.reset : State := State.resetWith StageLines.low 0

end Sys2Proof.Machine
end

