-- ==== Sys2Proof/Machine/Ops.lean ====
section
/-! DEFINITION. The named operations that the blocks share: bytes of a line, the Posted Write Queue, reads sent toward
memory, the Report Queue's claims, and the tables' accessors. -/

namespace Sys2Proof.Machine

/-! ## Words, bytes and lines -/

/-- Bits `lo + len − 1 .. lo` of a word as a number. -/
def bits (w : Word) (lo len : Nat) : Nat := w.toNat / 2 ^ lo % 2 ^ len

/-- The line (32 bytes, 32-aligned) of a byte address. -/
def lineOf (a : Nat) : Nat := a / 32 * 32

/-- The position 0..7 of a word in its line. -/
def wordPos (a : Nat) : Nat := a % 32 / 4

/-- Byte j of a word: bits 8j+7..8j (R195). -/
def byteOf (d : Word) (j : Nat) : Byte := d.extractLsb' (8 * j) 8

/-- A line with no byte enabled. -/
def noBytes : LineBytes := Vector.replicate 32 none

/-- Later bytes over earlier ones: an enabled byte replaces, a byte whose enable is clear keeps (R111). -/
def overlay (old new : LineBytes) : LineBytes := Vector.ofFn fun j => new[j] <|> old[j]

/-- The bytes that a word at a line position enables. -/
def wordBytes (pos : Nat) (data : Word) (be : BitVec 4) : LineBytes :=
  Vector.ofFn fun j => if j.val / 4 = pos ∧ be.getLsbD (j.val % 4) then some (byteOf data (j.val % 4)) else none

/-- Whether a line has any byte enabled. -/
def anyByte (b : LineBytes) : Bool := b.toList.any Option.isSome

/-- A word written at an address with its byte enables. -/
structure WordWrite where
  addr : Nat
  data : Word
  be : BitVec 4
  deriving DecidableEq, Repr

/-- A queue write: what one writer puts into one line (R109, R110). -/
structure QWrite where
  line : Nat
  bytes : LineBytes
  source : Source
  tileRef : Option TileNo
  header : Option Nat
  deriving DecidableEq, Repr

/-- The bytes of several words of one line, later words over earlier ones. -/
def gather (ws : List WordWrite) : LineBytes :=
  ws.foldl (fun acc w => overlay acc (wordBytes (wordPos w.addr) w.data w.be)) noBytes

/-- The queue write of some words of one line; none when no byte enable is set (R12, R16, R17, R100). -/
def lineWrite (ws : List WordWrite) (source : Source) (ref : Option TileNo) : Option QWrite :=
  match ws with
  | [] => none
  | w :: _ =>
    if anyByte (gather ws) then
      some { line := lineOf w.addr, bytes := gather ws, source := source, tileRef := ref, header := none }
    else none

/-- The words of a write request: beat i lies at address + 4 × i (Table 5-1). -/
def writeWords (w : WriteReq) : List WordWrite :=
  w.beats.zipIdx.map fun (b, i) => { addr := w.addr.toNat + 4 * i, data := b.data, be := b.be }

/-- Eight whole words from a line address. -/
def lineWords (line : Nat) (ws : List Word) : List WordWrite :=
  ws.zipIdx.map fun (d, i) => { addr := line + 4 * i, data := d, be := 15 }

/-! ## Posted Write Queue (5.4) -/

/-- The entry takes merges of the line: it is WAITING and of that line (R110). -/
def Entry.takes (e : Entry) (line : Nat) : Bool := e.line == line && e.state == .waiting

/-- The order REPORT, PLAN, MERGE, UPSTREAM of R109, highest first. -/
def Source.rank : Source → Nat
  | .report => 3
  | .plan => 2
  | .merge => 1
  | .upstream => 0

/-- Whichever source stands higher (R109). -/
def Source.higher (a b : Source) : Source := if a.rank < b.rank then b else a

/-- A write merges into a WAITING entry (R109, R111): its bytes win, the entry's place and fence stay. A header write takes
its produce index along (R190), also into an entry older than its record line, as in Table 10-3. That entry's retirement then
moves the drained produce index past a record line still queued, against the last sentence of R190 and against R186; that the
merge prevails is the model's choice (DESIGN CHOICE, log entry 30). -/
def Entry.merge (e : Entry) (w : QWrite) : Entry :=
  { e with
    bytes := overlay e.bytes w.bytes
    source := e.source.higher w.source
    tileRef := e.tileRef <|> w.tileRef
    header := w.header <|> e.header }

/-- The entry after a write of some line, when it merges at all. -/
def Entry.mergeIf (w : QWrite) (e : Entry) : Entry := if e.takes w.line then e.merge w else e

/-- The entry that a write opens (R109): WAITING, with no fence. -/
def newEntry (id : Nat) (w : QWrite) : Entry :=
  { id := id, line := w.line, bytes := w.bytes, source := w.source, tileRef := w.tileRef, fence := none
    state := .waiting, header := w.header }

/-- Whether a WAITING entry of the line stands in the queue. -/
def Pwq.hasWaiting (q : Pwq) (line : Nat) : Bool := q.entries.any (·.takes line)

/-- A queue write is placed (R110): it merges into the WAITING entry of its line, or opens a new entry at the tail. -/
def Pwq.place (q : Pwq) (w : QWrite) : Pwq :=
  if q.hasWaiting w.line then
    { q with entries := q.entries.map (Entry.mergeIf w) }
  else
    { entries := q.entries ++ [newEntry q.nextId w], nextId := q.nextId + 1 }

/-- The ordinal of the entry that a placement of the write reaches. -/
def Pwq.placedId (q : Pwq) (w : QWrite) : Nat :=
  match q.entries.find? (·.takes w.line) with
  | some e => e.id
  | none => q.nextId

/-- Need of a write (R112): its queue writes that find no WAITING entry of their line. -/
def Pwq.need (q : Pwq) (ws : List QWrite) : Nat := (ws.filter fun w => !q.hasWaiting w.line).length

/-- Free entries: 16 less the occupied count (R110, R112). -/
def Pwq.free (q : Pwq) : Nat := Config.pwqPlaces - q.entries.length

/-- The entries of a line, WAITING or DRAINING, by ordinal: a read's snapshot (R114). -/
def Pwq.snapshot (q : Pwq) (line : Nat) : List Nat := (q.entries.filter (·.line == line)).map (·.id)

/-- The later of the last-carrier reference and an entry in creation order (R23). -/
def laterCarrier (lc : Option Nat) (id : Nat) : Option Nat :=
  match lc with
  | none => some id
  | some k => some (max k id)

/-- One queue write enters. A write that carries the current tile moves the last-carrier reference (R23). -/
def State.placeOne (w : QWrite) (s : State) : State :=
  { s with
    pwq := s.pwq.place w
    merge :=
      if w.tileRef.isSome && w.tileRef == s.seq.current then
        { s.merge with lastCarrier := laterCarrier s.merge.lastCarrier (s.pwq.placedId w) }
      else s.merge }

/-- The queue writes of one taking enter in their order (R19, R112). -/
def State.placeAll (ws : List QWrite) (s : State) : State := ws.foldl (fun s w => s.placeOne w) s

/-- The entry of an ordinal takes a fence (R119). -/
def Entry.withFence (id : Nat) (t : TileNo) (e : Entry) : Entry := if e.id = id then { e with fence := some t } else e

/-- The fence of a tile is put on an entry (R119). -/
def State.putFence (id : Nat) (t : TileNo) (s : State) : State :=
  { s with pwq := { s.pwq with entries := s.pwq.entries.map (Entry.withFence id t) } }

/-- The entry latest in creation order that carries a tile's reference (R23, at arming). -/
def Pwq.lastOfTile (q : Pwq) (t : TileNo) : Option Nat :=
  (q.entries.filter (·.tileRef == some t)).getLast?.map (·.id)

/-! ## Answers and reads -/

/-- The port answers a master (R97). -/
def State.answer (m : Master) (st : Status) (data : List Word) (s : State) : State :=
  { s with port := { s.port with answers := s.port.answers ++ [{ master := m, status := st, data := data }] } }

/-- A read is sent toward memory (R88, R114): it takes its snapshot, and joins the READ class at once when that is
empty. -/
def State.forward (r : PortRead) (s : State) : State :=
  match s.pwq.snapshot (lineOf r.addr.toNat) with
  | [] => { s with reads := { s.reads with ready := s.reads.ready ++ [r] } }
  | ids => { s with reads := { s.reads with waiting := s.reads.waiting ++ [{ read := r, snapshot := ids }] } }

/-! ## Report Queue (10.3) -/

/-- Occupied plus reserved places. -/
def Report.used (r : Report) : Nat := r.queue.length + r.reserved

/-- A droppable record is offered (R188): queued while a place is neither occupied nor reserved, else dropped with the
DROPPED flag set; discarded while UNCONFIGURED. -/
def State.offer (r : Record) (s : State) : State :=
  match s.plan.station with
  | none => s
  | some _ =>
    if s.report.used < Config.reportPlaces then
      { s with report := { s.report with queue := s.report.queue ++ [r] } }
    else { s with report := { s.report with dropped := true } }

/-- An essential record takes a place reserved for it (R187). -/
def State.queueEssential (r : Record) (s : State) : State :=
  { s with report := { s.report with queue := s.report.queue ++ [r], reserved := s.report.reserved - 1 } }

/-- Reserved places are given up (R187). -/
def State.giveUp (n : Nat) (s : State) : State :=
  { s with report := { s.report with reserved := s.report.reserved - n } }

/-- Places are reserved (R187). -/
def State.reserve (n : Nat) (s : State) : State :=
  { s with report := { s.report with reserved := s.report.reserved + n } }

/-- IRQ is set again (R191): high while the drained produce index differs from C. -/
def State.setIrq (s : State) : State :=
  { s with report := { s.report with irq := s.report.drained != s.report.consume } }

/-! ## Timers -/

/-- A timer starts from 0 with a length. -/
def Timer.start (limit : Nat) : Timer := { value := 0, limit := limit }

/-- A tick is counted. -/
def Timer.tick (t : Timer) : Timer := { t with value := t.value + 1 }

/-- The timer has reached its length. -/
def Timer.reached (t : Timer) : Bool := t.limit ≤ t.value

/-! ## Stage filters (7.2) -/

/-- A filter whose filtered level has just taken a level (R134): its raw level stands there (log entry 14) and the run
count is 0. -/
def Filter.moved (level : Bool) : Filter := { raw := level, level := level, run := 0 }

/-! ## The free order (log entry 2) -/

/-- A free place 0..n for a draw; with one place there is no choice. -/
def pick (draw n : Nat) : Nat := if n = 0 then 0 else Config.order draw % (n + 1)

/-- A list in a free order: each element is put at a free place among those after it. -/
def freeOrder {α : Type} (draw : Nat) : List α → List α
  | [] => []
  | x :: xs => (freeOrder (draw + 1) xs).insertIdx (pick draw xs.length) x

/-- Draws are used up. -/
def State.draw (n : Nat) (s : State) : State := { s with clock := { s.clock with draws := s.clock.draws + n } }

/-! ## Tables -/

def State.setTile (t : TileNo) (x : Option Tile) (s : State) : State :=
  { s with asm := { s.asm with tiles := s.asm.tiles.set t x } }

def State.setPlate (p : SlotNo) (x : Option Plate) (s : State) : State :=
  { s with asm := { s.asm with plates := s.asm.plates.set p x } }

/-- Change a non-FREE tile; a FREE entry stays as it is. -/
def State.modTile (t : TileNo) (f : Tile → Tile) (s : State) : State := s.setTile t (s.asm.tiles[t].map f)

/-- Change a resident plate; a FREE slot stays as it is. -/
def State.modPlate (p : SlotNo) (f : Plate → Plate) (s : State) : State := s.setPlate p (s.asm.plates[p].map f)

/-- The station is CONFIGURED (R178). -/
def State.configured (s : State) : Bool := s.plan.station.isSome

/-- A setting of the station record, 0 while UNCONFIGURED. -/
def State.setting (f : Station → Nat) (s : State) : Nat := (s.plan.station.map f).getD 0

/-- The arbitration mode: FIXED while UNCONFIGURED, else the station setting (R130). -/
def State.arbMode (s : State) : ArbMode :=
  match s.plan.station with
  | none => .fixed
  | some st => st.mode

/-- The filter depth: 64 before the first station record, else the station setting (R135). -/
def State.filterDepth (s : State) : Nat :=
  match s.plan.station with
  | none => Config.resetFilterDepth
  | some st => st.filterDepth

/-- The plan area's base: PLANBASE × 1 MB (R168). -/
def State.planBase (s : State) : Nat := s.straps.toNat * 1048576

/-- The base of a plan slot, and the address of its post word (R168). -/
def State.slotBase (s : State) (k : PlanSlot) : Nat := s.planBase + k.val * Config.slotBytes

def State.postWord (s : State) (k : PlanSlot) : Nat := s.slotBase k + 252

/-- The tile is DONE or FAILED. -/
def Tile.final (t : Tile) : Bool :=
  match t.state with
  | .done => true
  | .failed _ => true
  | _ => false

/-- The tile is CLOSING. -/
def Tile.isClosing (t : Tile) : Bool :=
  match t.state with
  | .closing _ _ => true
  | _ => false

/-- The tile is ARMED, SETTLING or EXPOSING: the states of a tile that the sequencer holds (R50). -/
def Tile.active (t : Tile) : Bool :=
  match t.state with
  | .armed => true
  | .settling => true
  | .exposing => true
  | _ => false

/-- The sequencer's tile, which is ARMED, SETTLING or EXPOSING (R50), with its entry number and plate. -/
def State.currentTile (s : State) : Option (TileNo × Tile × Plate) :=
  match s.seq.current with
  | none => none
  | some t =>
    match s.asm.tiles[t] with
    | none => none
    | some tile =>
      match s.asm.plates[tile.slot] with
      | none => none
      | some plate => if tile.active then some (t, tile, plate) else none

/-- Whether the entry holds a tile that satisfies a test. -/
def State.tileIs (s : State) (p : Tile → Bool) (t : TileNo) : Bool := s.asm.tiles[t].any p

end Sys2Proof.Machine
end

