-- ==== Sys2Proof/Machine/Operands.lean ====
section
/-! DEFINITION. Geometry (chapter 1), the fields of plan records with their checks (chapters 1, 9 and 11), result words
and the words of report records (chapter 11). -/

namespace Sys2Proof.Machine

/-! ## Derived quantities of Table 1-2 -/

def Geometry.tiles (g : Geometry) : Nat := g.rows * g.cols
def Geometry.frameWords (g : Geometry) : Nat := g.width * g.height / 2
def Geometry.frameBytes (g : Geometry) : Nat := g.width * g.height * 2
/-- Words per frame row. -/
def Geometry.rowWords (g : Geometry) : Nat := g.width / 2
def Geometry.keptHeight (g : Geometry) : Nat := g.height - g.top - g.bottom
def Geometry.keptWidth (g : Geometry) : Nat := g.width - g.left - g.right
def Geometry.imageArea (g : Geometry) : Nat := g.rows * g.keptHeight * g.pitch
/-- Bytes of a band (R5). -/
def Geometry.bandBytes (g : Geometry) : Nat := g.keptHeight * g.pitch
/-- First address of band b (R5). -/
def Geometry.bandBase (g : Geometry) (b : Nat) : Nat := g.imageBase + b * g.bandBytes
def Geometry.proofArea (g : Geometry) : Nat := g.tiles * g.frameBytes

/-- Frame word o is kept: its row and both of its samples are kept (R3). -/
def Geometry.kept (g : Geometry) (o : Nat) : Bool :=
  let row := o / g.rowWords
  let sample := o % g.rowWords * 2
  g.top ≤ row && row < g.height - g.bottom && g.left ≤ sample && sample + 1 < g.width - g.right

/-- Destination address of kept frame word o of the tile at (row, col): that of its lane 0 (R4, R14). -/
def Geometry.dest (g : Geometry) (row col o : Nat) : Nat :=
  g.imageBase + (row * g.keptHeight + (o / g.rowWords - g.top)) * g.pitch
    + (col * g.keptWidth + (o % g.rowWords * 2 - g.left)) * 2

/-- Stage target of the tile in a tile row and column, modulo 2^24 (R52). -/
def Plate.targetX (p : Plate) (col : Nat) : BitVec 24 := p.originX + BitVec.ofNat 24 col * p.pitchX
def Plate.targetY (p : Plate) (row : Nat) : BitVec 24 := p.originY + BitVec.ofNat 24 row * p.pitchY

/-- An axis within tolerance of a target: the signed difference modulo 2^24 (R52). -/
def within (pos target : BitVec 24) (tol : Nat) : Bool := (pos - target).toInt.natAbs ≤ tol

/-! ## Address ranges -/

/-- A range of byte addresses: base and length. -/
abbrev Range := Nat × Nat

/-- Two ranges overlap when they share one byte (R179). -/
def overlaps (a b : Range) : Bool := a.1 < b.1 + b.2 && b.1 < a.1 + a.2

def inRange (r : Range) (a : Nat) : Bool := r.1 ≤ a && a < r.1 + r.2

/-- Report area: the header line and the N record lines (R177, R185). -/
def reportArea (base n : Nat) : Range := (base, 32 + 32 * n)

def Station.window (st : Station) : Range := (st.windowBase, st.windowLength)
def Station.reportArea (st : Station) : Range := Machine.reportArea st.reportBase st.capacity
def State.planArea (s : State) : Range := (s.planBase, Config.planBytes)

/-- Image area, and proof area when present, of a plate (R4, R6). -/
def Plate.areas (p : Plate) : List Range :=
  (p.geo.imageBase, p.geo.imageArea) :: (p.proofBase.map fun b => (b, p.geo.proofArea)).toList

/-! ## Plan record fields (11.2) -/

/-- Word n of a record, of the words fetched. -/
def wordAt (ws : List Word) (n : Nat) : Word := ws.getD n 0

/-- A check and the plan word index it names. -/
abbrev Check := Bool × Nat

/-- The word index of the first check that fails (R8, R177). -/
def firstFailing (cs : List Check) : Option Nat := (cs.find? fun c => !c.1).map (·.2)

/-- The settings of a STATION record (Table 11-2). -/
def stationOf (ws : List Word) : Station :=
  let w := fun n => (wordAt ws n).toNat
  let f := fun n lo len => bits (wordAt ws n) lo len
  { divisor := w 0, captureMaster := Fin.ofNat 4 (w 1), windowBase := w 2, windowLength := w 3
    reportBase := w 4, capacity := w 5, mode := if w 6 = 0 then .fixed else .rotate, prescale := w 7
    pwmPeriod := f 8 0 16, idleDuty := f 8 16 16, idleTime := f 9 0 8, decay := f 9 8 8, pulse := f 9 16 8
    filterDepth := f 9 24 8, warmHigh := f 10 0 16, warmLow := f 10 16 16, settleTime := f 11 0 16, dwell := f 11 16 16
    expTimeout := f 12 0 16, holdTimeout := f 12 16 16 }

/-- The field checks of Table 9-4 in its order. -/
def stationChecks (ws : List Word) : List Check :=
  let st := stationOf ws
  let w := fun n => (wordAt ws n).toNat
  [ (25 ≤ st.divisor && st.divisor ≤ 133, 0),
    (w 1 ≤ 3, 1),
    (st.windowBase % 32 == 0, 2),
    (st.windowLength % 32 == 0 && 32 ≤ st.windowLength && st.windowLength ≤ 16777216
      && st.windowBase + st.windowLength ≤ 2 ^ 32, 3),
    (st.reportBase % 32 == 0, 4),
    ([16, 32, 64, 128, 256, 512, 1024].contains st.capacity && st.reportBase + 32 + 32 * st.capacity ≤ 2 ^ 32, 5),
    (w 6 ≤ 1, 6),
    (1 ≤ st.prescale && st.prescale ≤ 256, 7),
    (16 ≤ st.pwmPeriod && st.pwmPeriod ≤ 1023, 8),
    (st.idleDuty ≤ 1023, 8),
    (st.idleTime ≤ 255, 9),
    (4 ≤ st.decay && st.decay ≤ 12, 9),
    (1 ≤ st.warmHigh, 10),
    (st.warmLow < st.warmHigh, 10),
    (st.settleTime ≤ 65535, 11),
    (1 ≤ st.pulse, 9),
    (1 ≤ st.expTimeout, 12),
    (1 ≤ st.holdTimeout, 12),
    (st.dwell ≤ 65535, 11),
    (1 ≤ st.filterDepth && st.filterDepth ≤ 64, 9) ]

/-- Exposure e of a PLATE record (Table 11-3). -/
def exposureOf (ws : List Word) (e : Nat) : Exposure :=
  { duty := bits (wordAt ws (13 + 2 * e)) 0 16, step := bits (wordAt ws (13 + 2 * e)) 16 16
    clip := bits (wordAt ws (14 + 2 * e)) 0 16, floor := bits (wordAt ws (14 + 2 * e)) 16 16 }

/-- The geometry of a PLATE record (Table 11-3). -/
def geometryOf (ws : List Word) : Geometry :=
  let w := fun n => (wordAt ws n).toNat
  { rows := w 1, cols := w 2, width := w 3, height := w 4, top := w 5, bottom := w 6, left := w 7, right := w 8
    imageBase := w 9, pitch := w 10 }

/-- The plate of a PLATE record, as R28 writes it; the band holds and tile list are given at acceptance. -/
def plateOf (ws : List Word) (holds : List (Option HoldNo)) (tiles : List TileNo) : Plate :=
  let w := fun n => (wordAt ws n).toNat
  { state := .assembling, tag := wordAt ws 0, geo := geometryOf ws
    bracket := (List.range (w 12)).map (exposureOf ws)
    originX := (wordAt ws 21).setWidth 24, originY := (wordAt ws 22).setWidth 24
    pitchX := (wordAt ws 23).setWidth 24, pitchY := (wordAt ws 24).setWidth 24
    tolerance := w 25, retryLimit := w 26, policy := if w 27 = 0 then .wait else .pass
    proofBase := if w 11 = 0 then none else some (w 11)
    bandHolds := holds, tiles := tiles, tilesDone := 0, tilesFailed := 0, dismissReserved := false }

/-- The checks of exposure e: row 14 of Table 1-4. -/
def exposureChecks (ws : List Word) (e : Nat) : List Check :=
  let x := exposureOf ws e
  [ (x.duty ≤ 1023, 13 + 2 * e),
    (x.step ≤ 4, 13 + 2 * e),
    (e == 0 || (exposureOf ws (e - 1)).step < x.step, 13 + 2 * e),
    (1 ≤ x.clip && x.clip ≤ 4095, 14 + 2 * e),
    (x.floor < x.clip, 14 + 2 * e) ]

/-- A whole word as a signed 24-bit value (R179, R196). -/
def signed24 (w : Word) : Bool := -8388608 ≤ w.toInt && w.toInt ≤ 8388607

/-- The field checks of Table 1-4 in its order, then those of R179. Sums are exact (R196). -/
def plateChecks (ws : List Word) : List Check :=
  let g := geometryOf ws
  let w := fun n => (wordAt ws n).toNat
  [ (1 ≤ g.rows && g.rows ≤ 8, 1),
    (1 ≤ g.cols && g.cols ≤ 8, 2),
    (16 ≤ g.width && g.width ≤ 4096 && g.width % 16 == 0, 3),
    (16 ≤ g.height && g.height ≤ 4096, 4),
    (g.top + g.bottom + 1 ≤ g.height, 6),
    (g.left % 16 == 0, 7),
    (g.right % 16 == 0, 8),
    (g.left + g.right + 16 ≤ g.width, 8),
    (g.imageBase % 32 == 0, 9),
    (g.pitch % 32 == 0 && g.cols * g.keptWidth * 2 ≤ g.pitch, 10),
    (g.imageBase + g.imageArea ≤ 2 ^ 32, 9),
    (w 11 % 32 == 0, 11),
    (w 11 == 0 || w 11 + g.proofArea ≤ 2 ^ 32, 11),
    (1 ≤ w 12 && w 12 ≤ 4, 12) ]
  ++ (List.range (min (w 12) 4)).flatMap (exposureChecks ws)
  ++ [ (signed24 (wordAt ws 21), 21), (signed24 (wordAt ws 22), 22), (signed24 (wordAt ws 23), 23),
    (signed24 (wordAt ws 24), 24), (w 25 ≤ 255, 25), (w 26 ≤ 3, 26), (w 27 ≤ 1, 27) ]

/-- The kind of a post word: the whole word holds 1..4 (R175). -/
def kindOf (post : Word) : Option Kind :=
  if post = 1 then some .station
  else if post = 2 then some .plate
  else if post = 3 then some .retake
  else if post = 4 then some .dismiss
  else none

/-- Record lines read after line 7 (Table 9-2). -/
def Kind.lines : Kind → Nat
  | .station => 2
  | .plate => 4
  | .retake => 1
  | .dismiss => 1

/-! ## Result words (11.3) -/

/-- Result codes (Table 9-3). -/
inductive Code where
  | accepted
  | badKind
  | noStation
  | busy
  | badField
  | noRoom
  | overlap
  | wrongPlate
  | tileBusy
  | noHold
  | fetchFault
  deriving DecidableEq, Repr

def Code.number : Code → Nat
  | .accepted => 0
  | .badKind => 1
  | .noStation => 2
  | .busy => 3
  | .badField => 4
  | .noRoom => 5
  | .overlap => 6
  | .wrongPlate => 7
  | .tileBusy => 8
  | .noHold => 9
  | .fetchFault => 10

/-- The result word (Table 11-5): top bit set, detail in 23:16, code in 15:8, kind in 7:0. -/
def resultWord (kind : Nat) (code : Code) (detail : Nat) : Word :=
  BitVec.ofNat 32 (2 ^ 31 + detail % 256 * 2 ^ 16 + code.number * 2 ^ 8 + kind % 256)

/-! ## Report records (11.4) -/

def Reason.number : Reason → Nat
  | .motion => 1
  | .timeout => 2
  | .encoder => 3
  | .heat => 4
  | .homed => 5
  | .memory => 6

def StaleCause.number : StaleCause → Nat
  | .pass => 1
  | .timeout => 2
  | .dismiss => 3

def Source.number : Source → Nat
  | .upstream => 1
  | .merge => 2
  | .plan => 3
  | .report => 0

/-- Kind number of a record (Table 11-7). -/
def Record.kind : Record → Nat
  | .tileDone .. => 1
  | .tileFault .. => 2
  | .plateDone .. => 3
  | .plateDismissed .. => 4
  | .staleRead .. => 5
  | .writeRefused .. => 6
  | .strayCapture .. => 7
  | .cutChange .. => 8
  | .encoderFault .. => 9
  | .memoryFault .. => 10

/-- Plate slot and tile index of word 0, where the kind has them (Table 11-7). -/
def Record.place : Record → Nat × Nat
  | .tileDone slot index .. => (slot.val, index)
  | .tileFault slot index .. => (slot.val, index)
  | .plateDone slot .. => (slot.val, 0)
  | .plateDismissed slot .. => (slot.val, 0)
  | _ => (0, 0)

/-- Word 0 of a record (Table 11-7). -/
def Record.word0 (r : Record) (dropped : Bool) : Word :=
  BitVec.ofNat 32 (r.kind + dropped.toNat * 2 ^ 15 + r.place.1 * 2 ^ 16 + r.place.2 * 2 ^ 24)

/-- The pair word of exposure e of TILE_DONE: 0 for an exposure not taken (R197). -/
def pairWord (stats : List (Nat × Nat)) (taken e : Nat) : Nat :=
  if e < taken then (stats.getD e (0, 0)).1 + (stats.getD e (0, 0)).2 * 2 ^ 16 else 0

/-- Words 1..7 of a record as numbers (Table 11-8). -/
def Record.body : Record → List Nat
  | .tileDone _ _ tag taken skipped retries waits stats heat =>
    [tag.toNat, taken + skipped.toNat * 2 ^ 3 + retries * 2 ^ 8 + waits * 2 ^ 16,
      pairWord stats taken 0, pairWord stats taken 1, pairWord stats taken 2, pairWord stats taken 3, heat]
  | .tileFault _ _ tag e reason retries final =>
    [tag.toNat, e + reason.number * 2 ^ 8 + retries * 2 ^ 16 + final.toNat * 2 ^ 24, 0, 0, 0, 0, 0]
  | .plateDone _ tag done failed => [tag.toNat, done + failed * 2 ^ 16, 0, 0, 0, 0, 0]
  | .plateDismissed _ tag done failed => [tag.toNat, done + failed * 2 ^ 16, 0, 0, 0, 0, 0]
  | .staleRead m line cause => [m.val + cause.number * 2 ^ 8, line, 0, 0, 0, 0, 0]
  | .writeRefused m line => [m.val, line, 0, 0, 0, 0, 0]
  | .strayCapture count => [count, 0, 0, 0, 0, 0, 0]
  | .cutChange level heat => [level.toNat, heat, 0, 0, 0, 0, 0]
  | .encoderFault ax pos => [(if ax = .x then 0 else 1), (pos.signExtend 32).toNat, 0, 0, 0, 0, 0]
  | .memoryFault line source => [line, source.number, 0, 0, 0, 0, 0]

/-- The 8 words of a record (R197). -/
def Record.words (r : Record) (dropped : Bool) : List Word := r.word0 dropped :: r.body.map (BitVec.ofNat 32)

/-! ## The lines of the Report Writer side (10.4, 9.4) -/

/-- The write of whole words to a line. -/
def wholeLine (line : Nat) (ws : List Word) (source : Source) (header : Option Nat) : QWrite :=
  { line := line, bytes := gather (lineWords line ws), source := source, tileRef := none, header := header }

/-- The record line for place P (R185, R189): a whole line, with the DROPPED mark when the flag is set. -/
def recordWrite (st : Station) (place : Nat) (r : Record) (dropped : Bool) : QWrite :=
  wholeLine (st.reportBase + 32 + 32 * place) (r.words dropped) .report none

/-- The header write after a record: word 0 alone (R185). -/
def headerWrite (base produce : Nat) (live : Bool) : QWrite :=
  { line := base, bytes := wordBytes 0 (BitVec.ofNat 32 produce) 15, source := .report, tileRef := none
    header := if live then some produce else none }

/-- The whole header line of a new ring: both indices 0, words 2..7 zero (R185, R193). -/
def newHeaderWrite (base : Nat) : QWrite := wholeLine base (List.replicate 8 0) .report (some 0)

/-- The result word as a full-word write of the slot's post word (R176). -/
def resultWrite (post : Nat) (result : Word) : QWrite :=
  { line := lineOf post, bytes := wordBytes (wordPos post) result 15, source := .plan, tileRef := none, header := none }

/-- The queue write of a line of the ready list as it stands now. -/
def State.readyWrite (s : State) : ReadyLine → Option QWrite
  | .record =>
    match s.plan.station, s.report.queue with
    | some st, r :: _ => some (recordWrite st s.report.produce r s.report.dropped)
    | _, _ => none
  | .header base p live => some (headerWrite base p live)
  | .newHeader base => some (newHeaderWrite base)
  | .result =>
    match s.plan.take with
    | some { slot := k, step := .finished w, .. } => some (resultWrite (s.postWord k) w)
    | _ => none

end Sys2Proof.Machine
end

