-- ==== Sys2Proof/Machine/Flags.lean ====
section
/-! DEFINITION. The levels that follow the state: requested duty, LAMP, the Report Writer's line in hand and ready list,
`refresh`, which brings them up to date after every effect, and `conclude`, which ends a step. -/

namespace Sys2Proof.Machine

/-! ## Requested duty and LAMP (8.4, 8.7) -/

/-- The duty that line 2 of Table 8-2 asks for: the sequencer's tile is SETTLING or EXPOSING, or ARMED in a COOL zone. -/
def State.tileDuty (s : State) : Option Nat :=
  match s.currentTile with
  | none => none
  | some (_, tile, plate) =>
    let duty := (plate.bracket[tile.expIndex]?.map (·.duty)).getD 0
    match tile.state with
    | .settling => some duty
    | .exposing => some duty
    | .armed => if s.lamp.zone = .cool then some duty else none
    | _ => none

/-- The requested duty by the first line of Table 8-2 that applies, and whether that was line 2 (R152). -/
def State.requestNow (s : State) : Nat × Bool :=
  if s.stage.cut.level then (0, false)
  else
    match s.tileDuty with
    | some d => (d, true)
    | none => if s.lamp.on then (s.setting (·.idleDuty), false) else (0, false)

/-- The request is formed again (R152). -/
def State.formRequest (s : State) : State :=
  { s with lamp := { s.lamp with requested := s.requestNow.1, fromTile := s.requestNow.2 } }

/-- LAMP is high exactly when the lamp is ON, CUT is low, and the period counter is below the smaller of the applied duty
and the period (R148, R162). -/
def State.lampLevel (s : State) : Bool :=
  s.lamp.on && !s.stage.cut.level && s.lamp.counter < min s.lamp.applied s.lamp.period

def State.driveLamp (s : State) : State := { s with lamp := { s.lamp with out := s.lampLevel } }

/-! ## Heat zone (8.6) -/

/-- A tile that is ARMED counts a heat wait, saturating at 255 (R56). -/
def Tile.countHeatWait (t : Tile) : Tile := { t with heatWaits := min 255 (t.heatWaits + 1) }

/-- The zone by hysteresis: COOL becomes WARM at H ≥ warm high, WARM becomes COOL at H < warm low (R159). -/
def zoneNow (st : Station) (zone : Zone) (heat : Nat) : Zone :=
  match zone with
  | .cool => if st.warmHigh ≤ heat then .warm else .cool
  | .warm => if heat < st.warmLow then .cool else .warm

/-- The zone is judged; a change from COOL to WARM that finds the sequencer's tile ARMED is a heat wait (R56, R159). -/
def State.judgeZone (s : State) : State :=
  match s.plan.station with
  | none => s
  | some st =>
    let z := zoneNow st s.lamp.zone s.lamp.heat
    let s' := { s with lamp := { s.lamp with zone := z } }
    match s.seq.current with
    | none => s'
    | some t =>
      if s.lamp.zone = .cool ∧ z = .warm ∧ s.tileIs (·.state == .armed) t then s'.modTile t Tile.countHeatWait else s'

/-! ## Report Writer: line in hand and ready list (10.4) -/

/-- A ready line that is the line in hand: a record line or a header write (Table 10-2). -/
def ReadyLine.inHand : ReadyLine → Bool
  | .record => true
  | .header _ _ _ => true
  | .newHeader _ => false
  | .result => false

/-- The line in hand (R189). -/
def Report.lineInHand (r : Report) : Option ReadyLine := r.ready.find? (·.inHand)

/-- The ring is full when (P + 1) mod N equals C (R189). -/
def Report.full (r : Report) (n : Nat) : Bool := (r.produce + 1) % n == r.consume

/-- The Report Writer takes the oldest record in hand when the queue holds one, no line is in hand and the ring is not
full (R189): its line becomes ready. -/
def State.takeInHand (s : State) : State :=
  match s.plan.station with
  | none => s
  | some st =>
    if !s.report.queue.isEmpty && s.report.lineInHand.isNone && !s.report.full st.capacity then
      { s with report := { s.report with ready := s.report.ready ++ [.record] } }
    else s

/-- The take has ended but for its result word. -/
def State.resultDue (s : State) : Bool :=
  match s.plan.take with
  | some { step := .finished _, .. } => true
  | _ => false

/-- A result word that is due and not presented yet joins the ready list (R176, R189). -/
def State.presentResult (s : State) : State :=
  if s.resultDue && !s.report.ready.contains .result then
    { s with report := { s.report with ready := s.report.ready ++ [.result] } }
  else s

/-- Need of the first ready line: 0 or 1 (R112). -/
def State.readyNeed (s : State) : Nat :=
  match s.report.ready with
  | [] => 0
  | l :: _ => s.pwq.need (s.readyWrite l).toList

/-- The Report Writer side waits once its first line has a need that the free entries do not cover, and until that line
enters (R113, log entry 11). -/
def State.noteWait (s : State) : State :=
  { s with report := { s.report with
      waits := !s.report.ready.isEmpty && (s.report.waits || s.pwq.free < s.readyNeed) } }

/-- What follows every effect: a record taken in hand, the waiting of the Report Writer side noted, the request formed
again and LAMP driven. -/
def refresh (s : State) : State := s.takeInHand.noteWait.formRequest.driveLamp

/-- The end of a step: a due result word is presented, behind every Report Writer line that became ready in the step
(R176, R189), and the waiting of that side is noted again. -/
def conclude (s : State) : State := s.presentResult.noteWait

end Sys2Proof.Machine
end

