-- ==== Sys2Proof/Machine/HoldUnit.lean ====
section
/-! DEFINITION. Hold Unit: closing and opening bands, the Held-Read Queue and the hold timer (04). -/

namespace Sys2Proof.Machine

/-- The HELD hold whose band range has the line (R76, R103). -/
def State.holdOf (s : State) (line : Nat) : Option HoldNo :=
  (List.finRange 16).find? fun h => s.hold.pool[h].any fun x => inRange (x.base, x.size) line

/-- The FREE holds, lowest first (R77). -/
def State.freeHolds (s : State) : List HoldNo := (List.finRange 16).filter fun h => s.hold.pool[h].isNone

/-- The hold of a band of a plate in a slot (R76). -/
def holdFor (p : SlotNo) (plate : Plate) (band : Nat) : Hold :=
  { slot := p, base := plate.geo.bandBase band, size := plate.geo.bandBytes, policy := plate.policy }

/-- A hold becomes HELD for a band (R77, R78). -/
def State.setHold (h : HoldNo) (x : Option Hold) (s : State) : State :=
  { s with hold := { s.hold with pool := s.hold.pool.set h x } }

/-- The read that a place of the Held-Read Queue keeps, with the answer decided for it. -/
def HeldRead.toRead (r : HeldRead) (stale : Bool) : PortRead :=
  { master := r.master, addr := r.addr, beats := r.beats, stale := stale }

/-- The line of a request address. -/
def addrLine (a : BitVec 32) : Nat := lineOf a.toNat

/-- A queued read is forwarded OK at its band's release (R80). -/
def State.forwardReleased (r : HeldRead) (s : State) : State := s.forward (r.toRead false)

/-- A queued read is forwarded STALE, and STALE_READ is offered (R81, R87). -/
def State.forwardStale (cause : StaleCause) (r : HeldRead) (s : State) : State :=
  (s.forward (r.toRead true)).offer (.staleRead r.master (addrLine r.addr) cause)

/-- The places of the Held-Read Queue that satisfy a test are taken out, in queue order, and each is forwarded. -/
def State.takeOut (p : HeldRead → Bool) (f : HeldRead → State → State) (s : State) : State :=
  (s.hold.queue.filter p).foldl (fun s r => f r s) { s with hold := { s.hold with queue := s.hold.queue.filter (!p ·) } }

/-- A finished band's hold is released: FREE, and the reads waiting on it forwarded OK (R80). -/
def State.releaseHold (h : HoldNo) (s : State) : State :=
  (s.setHold h none).takeOut (fun r => r.hold == h) State.forwardReleased

/-- Every hold of some list is released at a DISMISS: FREE together, the reads waiting on them forwarded STALE with
cause DISMISS in queue order (R81). -/
def State.dismissHolds (hs : List HoldNo) (s : State) : State :=
  (hs.foldl (fun s h => s.setHold h none) s).takeOut (fun r => hs.contains r.hold) (State.forwardStale .dismiss)

/-- A HELD-READ reaches the Hold Unit (R83): under PASS it is forwarded STALE with a record (R84), under WAIT it enters
the Held-Read Queue with a timer at 0 (R85). -/
def State.heldReadArrives (h : HoldNo) (policy : Policy) (r : ReadReq) (s : State) : State :=
  let q : HeldRead :=
    { master := r.master, addr := r.addr, beats := r.beats, hold := h
      timer := .start (s.setting (·.holdTimeout) * 1000) }
  match policy with
  | .pass => s.forwardStale .pass q
  | .wait => { s with hold := { s.hold with queue := s.hold.queue ++ [q] } }

/-- The hold timer of a master's queued read expires (R87). -/
def holdTimerExpiry (m : Master) (s : State) : State :=
  s.takeOut (fun r => r.master == m) (State.forwardStale .timeout)

end Sys2Proof.Machine
end

