-- ==== Sys2Proof/Machine/Assembly.lean ====
section
/-! DEFINITION. Assembly Control: fence delivery, band and plate completion, freeing a plate, acceptance, RETAKE and the
tables' part of DISMISS (02). -/

namespace Sys2Proof.Machine

/-- Tile Table entries of a band: the K tiles of tile row b (R1, R36). -/
def Plate.rowTiles (p : Plate) (b : Nat) : List TileNo := (p.tiles.drop (b * p.geo.cols)).take p.geo.cols

/-- The hold of a band, if it has one. -/
def Plate.bandHold (p : Plate) (b : Nat) : Option HoldNo := (p.bandHolds[b]?).join

/-- A tile's band is checked; if every tile of its row is final, its hold is released and the band holds entry becomes
none (R36). -/
def State.finishBand (p : SlotNo) (row : Nat) (s : State) : State :=
  match s.asm.plates[p] with
  | none => s
  | some plate =>
    if plate.state = .assembling ∧ (plate.rowTiles row).all (s.tileIs Tile.final) then
      match plate.bandHold row with
      | none => s
      | some h => (s.releaseHold h).modPlate p fun pl => { pl with bandHolds := pl.bandHolds.set row none }
    else s

/-- The plate has all its tiles final (R37). -/
def Plate.allFinal (p : Plate) : Bool := p.state == .assembling && p.tilesDone + p.tilesFailed == p.geo.tiles

/-- Plate completion (R37): COMPLETE, with PLATE_DONE in the tile's second place; else that place is given up (R40). -/
def State.finishPlate (p : SlotNo) (s : State) : State :=
  match s.asm.plates[p] with
  | none => s.giveUp 1
  | some plate =>
    if plate.allFinal then
      (s.modPlate p fun pl => { pl with state := .complete }).queueEssential
        (.plateDone p plate.tag plate.tilesDone plate.tilesFailed)
    else s.giveUp 1

/-- A tile ends at its fence (R32, R33, R38): its final state and the plate's count, then its band, its record in one
reserved place, and the plate. -/
def State.endTile (t : TileNo) (tile : Tile) (final : TileState) (count : Plate → Plate) (r : Record) (s : State) :
    State :=
  let s := (s.setTile t (some { tile with state := final, reservation := 0 })).modPlate tile.slot count
  ((s.finishBand tile.slot tile.row).queueEssential r).finishPlate tile.slot

/-- The tag of the plate in a slot. -/
def State.tagOf (s : State) (p : SlotNo) : Word := (s.asm.plates[p].map (·.tag)).getD 0

/-- TILE_DONE with the fields of R32. -/
def State.tileDoneRecord (tile : Tile) (heat : Nat) (s : State) : Record :=
  .tileDone tile.slot tile.index (s.tagOf tile.slot) tile.stats.length tile.skipped tile.retries tile.heatWaits tile.stats
    heat

/-- TILE_FAULT of a tile with a reason, retries used and the final flag (R33, R66). -/
def State.tileFaultRecord (tile : Tile) (reason : Reason) (retries : Nat) (final : Bool) (s : State) : Record :=
  .tileFault tile.slot tile.index (s.tagOf tile.slot) tile.expIndex reason retries final

def Plate.countDone (p : Plate) : Plate := { p with tilesDone := p.tilesDone + 1 }
def Plate.countFailed (p : Plate) : Plate := { p with tilesFailed := p.tilesFailed + 1 }

/-- An entry whose tile reference is among some tiles loses it (R31). -/
def Entry.dropRef (ts : List TileNo) (e : Entry) : Entry :=
  if e.tileRef.any (ts.contains ·) then { e with tileRef := none } else e

/-- PWQ entries lose the references to some tiles (R31). -/
def State.clearRefs (ts : List TileNo) (s : State) : State :=
  { s with pwq := { s.pwq with entries := s.pwq.entries.map (Entry.dropRef ts) } }

/-- A plate becomes FREE (R45, R47): PLATE_DISMISSED in the dismiss reservation, every tile entry FREE with the PWQ
references that name it cleared (R31), and the slot FREE. -/
def State.freePlate (p : SlotNo) (done failed : Nat) (s : State) : State :=
  match s.asm.plates[p] with
  | none => s
  | some plate =>
    let s := s.queueEssential (.plateDismissed p plate.tag done failed)
    ((plate.tiles.foldl (fun s t => s.setTile t none) s).clearRefs plate.tiles).setPlate p none

/-- No tile of the plate is CLOSING. -/
def State.noneClosing (s : State) (plate : Plate) : Bool := plate.tiles.all fun t => !s.tileIs Tile.isClosing t

/-- A DISMISSING plate becomes FREE once none of its tiles is CLOSING (R47). -/
def State.freeIfDone (p : SlotNo) (s : State) : State :=
  match s.asm.plates[p] with
  | some plate =>
    match plate.state with
    | .dismissing done failed => if s.noneClosing plate then s.freePlate p done failed else s
    | _ => s
  | none => s

/-- Delivery of a tile's fence (R32, R33, R34, R47). A tile that is not CLOSING has no fence to deliver. -/
def State.deliverFence (t : TileNo) (s : State) : State :=
  match s.asm.tiles[t] with
  | none => s
  | some tile =>
    match tile.state with
    | .closing .done heat =>
      if tile.damaged then
        s.endTile t tile (.failed .memory) Plate.countFailed (s.tileFaultRecord tile .memory tile.retries true)
      else s.endTile t tile .done Plate.countDone (s.tileDoneRecord tile (heat.getD 0))
    | .closing (.failed r) _ =>
      s.endTile t tile (.failed r) Plate.countFailed (s.tileFaultRecord tile r tile.retries true)
    | .closing .discarded _ =>
      (s.setTile t (some { tile with state := .pending, expIndex := 0, stats := [], skipped := false })).freeIfDone
        tile.slot
    | _ => s

/-- The fence of a tile that enters CLOSING is placed on the last-carrier reference, or counts as delivered at once when
the reference is none (R24). -/
def State.placeFence (t : TileNo) (carrier : Option Nat) (s : State) : State :=
  match carrier with
  | some id => s.putFence id t
  | none => s.deliverFence t

/-! ## Acceptance of a plate (2.4) -/

/-- The FREE Plate Table slots and Tile Table entries, lowest first (R28). -/
def State.freeSlots (s : State) : List SlotNo := (List.finRange 4).filter fun p => s.asm.plates[p].isNone
def State.freeTiles (s : State) : List TileNo := (List.finRange 64).filter fun t => s.asm.tiles[t].isNone

/-- A tile as R28 writes it at acceptance. -/
def newTile (p : SlotNo) (cols index : Nat) : Tile :=
  { slot := p, index := index, row := index / cols, col := index % cols, state := .pending, expIndex := 0, retries := 0
    heatWaits := 0, stats := [], skipped := false, damaged := false, reservation := 0 }

/-- Room for a plate: a FREE slot, R × K FREE entries and R FREE holds (R180). -/
def State.hasRoom (s : State) (g : Geometry) : Bool :=
  !s.freeSlots.isEmpty && g.tiles ≤ s.freeTiles.length && g.rows ≤ s.freeHolds.length

/-- Acceptance of a PLATE record into a slot (R28, R77): the plate, its tiles in the lowest FREE entries and one hold for
each band in the lowest FREE holds, in one step. -/
def State.acceptPlate (p : SlotNo) (ws : List Word) (s : State) : State :=
  let g := geometryOf ws
  let holds := s.freeHolds.take g.rows
  let tiles := s.freeTiles.take g.tiles
  let plate := plateOf ws (holds.map some) tiles
  let s := s.setPlate p (some plate)
  let s := tiles.zipIdx.foldl (fun s x => s.setTile x.1 (some (newTile p g.cols x.2))) s
  holds.zipIdx.foldl (fun s x => s.setHold x.1 (some (holdFor p plate x.2))) s

/-! ## RETAKE (2.9) -/

/-- The tile of a plate by tile index. -/
def State.tileOf (s : State) (plate : Plate) (index : Nat) : Option (TileNo × Tile) := do
  let t ← plate.tiles[index]?
  let tile ← s.asm.tiles[t]
  return (t, tile)

/-- The tile returns to PENDING (R42). -/
def Tile.retaken (t : Tile) : Tile :=
  { t with state := .pending, expIndex := 0, retries := 0, heatWaits := 0, stats := [], skipped := false
           damaged := false }

/-- The plate after a RETAKE of a tile that was DONE or FAILED (R42, R43). -/
def Plate.retaken (p : Plate) (wasDone : Bool) : Plate :=
  { p with
    state := .assembling
    tilesDone := if wasDone then p.tilesDone - 1 else p.tilesDone
    tilesFailed := if wasDone then p.tilesFailed else p.tilesFailed - 1 }

/-- A band without a hold takes the lowest FREE hold (R43, R78). -/
def State.closeBand (p : SlotNo) (row : Nat) (s : State) : State :=
  match s.asm.plates[p] with
  | none => s
  | some plate =>
    match plate.bandHold row, s.freeHolds with
    | none, h :: _ =>
      (s.setHold h (some (holdFor p plate row))).modPlate p fun pl =>
        { pl with bandHolds := pl.bandHolds.set row (some h) }
    | _, _ => s

/-- Acceptance of a RETAKE (R42, R43, R78). -/
def State.acceptRetake (p : SlotNo) (t : TileNo) (tile : Tile) (s : State) : State :=
  ((s.setTile t (some tile.retaken)).modPlate p fun pl => pl.retaken (tile.state == .done)).closeBand p tile.row

/-! ## DISMISS (2.10), steps 2 to 5 of R46 -/

/-- The outcome of a CLOSING tile becomes DISCARDED; its closing heat stays until it leaves CLOSING (R46, log entry 22). -/
def Tile.discard (t : Tile) : Tile :=
  match t.state with
  | .closing _ heat => { t with state := .closing .discarded heat }
  | _ => t

/-- A tile gives up its report reservations (R40). -/
def State.giveUpTile (t : TileNo) (s : State) : State :=
  match s.asm.tiles[t] with
  | none => s
  | some tile => (s.giveUp tile.reservation).setTile t (some { tile with reservation := 0 })

/-- Steps 2 to 5 of R46, for the plate as it was read at the take with its counts. -/
def State.discardPlate (p : SlotNo) (plate : Plate) (s : State) : State :=
  let s := plate.tiles.foldl (fun s t => s.modTile t Tile.discard) s
  let s := plate.tiles.foldl (fun s t => s.giveUpTile t) s
  let s := s.dismissHolds (plate.bandHolds.filterMap id)
  let s := s.modPlate p fun pl =>
    { pl with state := .dismissing plate.tilesDone plate.tilesFailed, bandHolds := pl.bandHolds.map fun _ => none }
  s.freeIfDone p

end Sys2Proof.Machine
end

