-- ==== Sys2Proof/Machine/Sequencer.lean ====
section
/-! DEFINITION. Bracket Sequencer: ends of a tile's hold on the exposure path, aborts, SETTLING, the trigger and the
exposure timer (03). -/

namespace Sys2Proof.Machine

/-! ## Leaving the sequencer -/

/-- The sequencer returns to IDLE (R50, R51, R65): its timers stop, the deferred trigger clears and MOVEOK rises; the
Merge Unit closes the frame and gives up its tile and last-carrier reference (R9, R22, R23); the watched target clears
(R143). A TRIG pulse goes on (R61). -/
def State.leave (s : State) : State :=
  { s with
    seq := { s.seq with current := none, settleTimer := none, deferred := false, expTimer := none, moveok := true }
    merge := { s.merge with frame := .closed, lastCarrier := none }
    stage := { s.stage with watched := none } }

/-- The current tile enters CLOSING (R64, R67, R73): the sequencer becomes IDLE and the fence is placed on the
last-carrier reference as it stood (R24). -/
def State.closeCurrent (t : TileNo) (tile : Tile) (o : ClosingOutcome) (heat : Option Nat) (s : State) : State :=
  ((s.setTile t (some { tile with state := .closing o heat })).leave).placeFence t s.merge.lastCarrier

/-! ## Aborts (3.6) -/

/-- The reasons that consume a retry (Table 3-3). -/
def Reason.consumes : Reason → Bool
  | .motion => true
  | .timeout => true
  | .encoder => true
  | .heat => false
  | .homed => false
  | .memory => false

/-- Retries used after an abort that leaves a retry (R65). -/
def Tile.retriesAfter (t : Tile) (r : Reason) : Nat := if r.consumes then t.retries + 1 else t.retries

/-- The tile after an abort to PENDING (R39, R66). -/
def Tile.aborted (t : Tile) (r : Reason) : Tile :=
  { t with state := .pending, expIndex := 0, stats := [], skipped := false, retries := t.retriesAfter r
           reservation := 0 }

/-- An abort to PENDING (R66): a non-final TILE_FAULT in one reserved place, the other given up. -/
def State.abortToPending (t : TileNo) (tile : Tile) (r : Reason) (s : State) : State :=
  (((s.setTile t (some (tile.aborted r))).leave).queueEssential
    (s.tileFaultRecord tile r (tile.retriesAfter r) false)).giveUp 1

/-- An abort cause reaches the sequencer (R65): the current tile returns to PENDING, or enters CLOSING with outcome FAILED
when its retries are exhausted. With the sequencer IDLE it has no effect on any tile. -/
def State.abort (r : Reason) (s : State) : State :=
  match s.currentTile with
  | none => s
  | some (t, tile, plate) =>
    if r.consumes && plate.retryLimit ≤ tile.retries then s.closeCurrent t tile (.failed r) none
    else s.abortToPending t tile r

/-- Step 1 of R46 (R73): the current tile, when it belongs to the dismissed plate, enters CLOSING with outcome DISCARDED,
with no record and no closing heat. -/
def State.discardCurrent (p : SlotNo) (s : State) : State :=
  match s.currentTile with
  | none => s
  | some (t, tile, _) => if tile.slot = p then s.closeCurrent t tile .discarded none else s

/-! ## ARMED, SETTLING, EXPOSING (3.3 to 3.5) -/

/-- A tile enters ARMED for exposure e; finding the zone WARM, it counts a heat wait (R56). -/
def Tile.arm (t : Tile) (e : Nat) (zone : Zone) : Tile :=
  let t := { t with state := .armed, expIndex := e }
  if zone = .warm then t.countHeatWait else t

/-- TRIG rises and the exposure begins (R60): trigger-pulse and exposure timers start, the tile is EXPOSING and its frame
opens with counts at 0 (R10). -/
def State.startExposure (t : TileNo) (tile : Tile) (s : State) : State :=
  { s.setTile t (some { tile with state := .exposing }) with
    seq := { s.seq with
      settleTimer := none, deferred := false, trig := true
      pulseTimer := some (.start (s.setting (·.pulse)))
      expTimer := some (.start (s.setting (·.expTimeout) * 1000)) }
    merge := { s.merge with frame := .opened, exposure := tile.expIndex, counter := 0, dark := 0, clip := 0 } }

/-- The settle expiry of a tile (R60), deferred while TRIG is still high (R61). -/
def State.settleExpires (t : TileNo) (tile : Tile) (s : State) : State :=
  if s.seq.trig then { s with seq := { s.seq with settleTimer := none, deferred := true } }
  else s.startExposure t tile

/-- The exposure-duty latch event reaches an ARMED tile (R57, R59): SETTLING with the settle timer at 0; with a settle
time of 0 the expiry is taken in the same step. -/
def State.enterSettling (t : TileNo) (tile : Tile) (s : State) : State :=
  let tile := { tile with state := .settling }
  let s : State := { s.setTile t (some tile) with seq := { s.seq with settleTimer := some (.start (s.setting (·.settleTime))) } }
  if s.setting (·.settleTime) = 0 then s.settleExpires t tile else s

/-- The settle timer of a tile that is SETTLING reaches the settle time (R59, R60). -/
def settleExpiry (s : State) : State :=
  match s.seq.settleTimer, s.currentTile with
  | some _, some (t, tile, _) => if tile.state = .settling then s.settleExpires t tile else s
  | _, _ => s

/-- The trigger-pulse timer reaches the trigger pulse length: TRIG falls (R61). -/
def triggerPulseEnd (s : State) : State :=
  match s.seq.pulseTimer with
  | none => s
  | some _ => { s with seq := { s.seq with trig := false, pulseTimer := none } }

/-- The tick after TRIG fell: a deferred trigger clears and the settle expiry is taken (R61). -/
def deferredTrigger (s : State) : State :=
  match s.currentTile with
  | none => s
  | some (t, tile, _) =>
    if s.seq.deferred && !s.seq.trig && tile.state == .settling then s.startExposure t tile else s

/-- The exposure timer expires: the current tile is aborted with TIMEOUT (R62, R69). A stopped or suspended timer does
not expire. -/
def exposureTimerExpiry (s : State) : State :=
  match s.seq.expTimer with
  | none => s
  | some _ => if s.seq.captureHeld then s else s.abort .timeout

end Sys2Proof.Machine
end

