-- ==== Sys2Proof/Machine/LampDrive.lean ====
section
/-! DEFINITION. Lamp Drive with Heat Monitor: period end and latch, turn-on and turn-off, heat ticks and CUT edges (08),
and the arming step, which turns the lamp on (03 3.2). -/

namespace Sys2Proof.Machine

/-- An exposure-duty latch event holds (R155): the zone is COOL, the tile is ARMED and the request came from line 2. -/
def State.latches (s : State) (tile : Tile) : Bool :=
  s.lamp.zone == .cool && tile.state == .armed && s.lamp.fromTile

/-- The latch event, when it holds, is delivered to the sequencer (R57). -/
def State.latch (s : State) : State :=
  match s.currentTile with
  | none => s
  | some (t, tile, _) => if s.latches tile then s.enterSettling t tile else s

/-- The applied duty takes the requested duty and the next period begins with the station's PWM period (R148, R154,
R157). -/
def State.applyRequest (s : State) : State :=
  { s with lamp := { s.lamp with
      applied := s.lamp.requested, counter := 0, period := s.setting (·.pwmPeriod) } }

/-- The period end of a lamp that is ON (R148, R154, R155). -/
def periodEnd (s : State) : State := if s.lamp.on then s.applyRequest.latch else s

/-- The lamp turns ON in an arming step (R150): the request is formed again and applied at once. -/
def State.turnOn (s : State) : State :=
  let s : State := { s with lamp := { s.lamp with on := true, idleTimer := 0 } }
  s.formRequest.applyRequest.latch

/-- The idle timer reaches the lamp idle time: the lamp turns OFF (R151). The applied duty is kept. -/
def idleTimerExpiry (s : State) : State :=
  match s.plan.station with
  | none => s
  | some st =>
    if s.lamp.on && s.seq.current.isNone && 0 < st.idleTime then
      { s with lamp := { s.lamp with on := false, counter := 0, idleTimer := 0 } }
    else s

/-! ## Heat (8.6) -/

/-- A of R158: the applied duty while the lamp is ON and CUT low, else 0. -/
def State.heatInput (s : State) : Nat := if s.lamp.on && !s.stage.cut.level then s.lamp.applied else 0

/-- The new heat value (R158). -/
def nextHeat (h k a : Nat) : Nat := min 65535 (h - h / 2 ^ k + a)

/-- The heat model's part of a 1 ms tick, and the zone judged after it (R158, R159). No tick runs while UNCONFIGURED. -/
def heatStep (s : State) : State :=
  match s.plan.station with
  | none => s
  | some st => ({ s with lamp := { s.lamp with heat := nextHeat s.lamp.heat st.decay s.heatInput } }).judgeZone

/-- The idle timer's part of a 1 ms tick: it counts while the lamp is ON and the sequencer IDLE (R151). -/
def State.msTick (s : State) : State :=
  if s.lamp.on && s.seq.current.isNone then
    { s with lamp := { s.lamp with idleTimer := min Config.idleTimerMax (s.lamp.idleTimer + 1) } }
  else s

/-- The idle timer, which counts, has reached the lamp idle time (R151). -/
def State.idleDue (s : State) : Bool :=
  0 < s.setting (·.idleTime) && s.setting (·.idleTime) * 1000 ≤ s.lamp.idleTimer && s.lamp.on
    && s.seq.current.isNone

/-- A 1 ms tick (R151, R158): the idle timer counts it, and the heat model and a due turn-off take it, these two in a free
order (R156, log entry 2). No tick runs while UNCONFIGURED. -/
def heatTick (s : State) : State :=
  match s.plan.station with
  | none => s
  | some _ =>
    let u := s.msTick
    if u.idleDue then
      let v := u.draw 1
      if pick u.clock.draws 1 = 0 then idleTimerExpiry (heatStep v) else heatStep (idleTimerExpiry v)
    else heatStep u

/-! ## CUT (8.7) -/

def State.setCut (level : Bool) (s : State) : State := { s with stage := { s.stage with cut := .moved level } }

/-- The filtered CUT level rises (R161): CUT_CHANGE is offered, LAMP goes low, the request is 0 and the current tile is
aborted with HEAT. -/
def cutRise (s : State) : State :=
  if s.stage.cut.level then s else ((s.setCut true).offer (.cutChange true s.lamp.heat)).abort .heat

/-- The filtered CUT level falls (R163): CUT_CHANGE is offered; the request and LAMP follow. -/
def cutFall (s : State) : State :=
  if s.stage.cut.level then (s.setCut false).offer (.cutChange false s.lamp.heat) else s

/-! ## Arming (3.2) -/

/-- A tile of an ASSEMBLING plate qualifies: PENDING, with its target within tolerance on both axes (R52, R53). -/
def State.qualifies (s : State) (plate : Plate) (t : TileNo) : Bool :=
  s.asm.tiles[t].any fun tile =>
    tile.state == .pending
      && within s.stage.posX (plate.targetX tile.col) plate.tolerance
      && within s.stage.posY (plate.targetY tile.row) plate.tolerance

/-- The tile of one slot that qualifies, with the lowest tile index (R54). -/
def State.candidateIn (s : State) (p : SlotNo) : Option (TileNo × Plate) :=
  match s.asm.plates[p] with
  | none => none
  | some plate =>
    if plate.state = .assembling then (plate.tiles.find? (s.qualifies plate)).map fun t => (t, plate) else none

/-- The tile to arm: lowest-numbered slot, then lowest tile index (R54). -/
def State.candidate (s : State) : Option (TileNo × Plate) := (List.finRange 4).findSome? s.candidateIn

/-- The conditions of R53 that do not concern a tile, with the sequencer IDLE. -/
def State.mayArm (s : State) : Bool :=
  s.seq.current.isNone && s.configured && !s.stage.cut.level && s.stage.settled
    && s.report.used + 2 ≤ Config.reportPlaces

/-- Item 4 of R55: a stray-run count above 0 is offered and set to 0 (R13). -/
def State.offerStray (s : State) : State :=
  if 0 < s.merge.stray then
    let s' := s.offer (.strayCapture s.merge.stray)
    { s' with merge := { s'.merge with stray := 0 } }
  else s

/-- The watched target of a tile and its plate's tolerance (R143). -/
def Plate.watch (plate : Plate) (tile : Tile) : Watched :=
  { x := plate.targetX tile.col, y := plate.targetY tile.row, tolerance := plate.tolerance }

/-- The arming step for a chosen tile (R55). -/
def State.armTile (t : TileNo) (plate : Plate) (tile : Tile) (s : State) : State :=
  let armed := { tile.arm 0 s.lamp.zone with reservation := 2 }
  let s := (s.reserve 2).setTile t (some armed)
  let s : State := { s with
    seq := { s.seq with current := some t, moveok := false }
    merge := { s.merge with frame := .closed, lastCarrier := s.pwq.lastOfTile t }
    stage := { s.stage with watched := some (plate.watch tile) } }
  let s := s.offerStray
  let s : State := { s with lamp := { s.lamp with idleTimer := 0 } }
  if s.lamp.on then s else s.turnOn

/-- ARMING: while IDLE and all conditions of R53 hold, the chosen tile is armed; otherwise the PENDING tiles wait and
nothing is recorded. -/
def arming (s : State) : State :=
  if s.mayArm then
    match s.candidate with
    | none => s
    | some (t, plate) =>
      match s.asm.tiles[t] with
      | none => s
      | some tile => s.armTile t plate tile
  else s

end Sys2Proof.Machine
end

