-- ==== Sys2Proof/Machine/MergeUnit.lean ====
section
/-! DEFINITION. Merge Unit: translation of a capture transaction, counting and completing the frame, the skip rule (01). -/

namespace Sys2Proof.Machine

/-! ## Translation (1.3, 1.4) -/

/-- What an OPEN frame gives the translation: the capture window's base, the plate's geometry, proof base and the open
frame's exposure, and the current tile's place (R10). -/
structure FrameCtx where
  window : Nat
  geo : Geometry
  proofBase : Option Nat
  exposure : Exposure
  index : Nat
  row : Nat
  col : Nat
  first : Bool
  tile : TileNo
  deriving DecidableEq, Repr

/-- The frame that is OPEN, none when it is CLOSED or no tile is in the sequencer (R10, R12). -/
def State.frameCtx (s : State) : Option FrameCtx :=
  match s.merge.frame, s.currentTile, s.plan.station with
  | .opened, some (t, tile, plate), some st =>
    some { window := st.windowBase, geo := plate.geo, proofBase := plate.proofBase
           exposure := plate.bracket.getD s.merge.exposure { duty := 0, step := 0, clip := 0, floor := 0 }
           index := tile.index, row := tile.row, col := tile.col, first := s.merge.exposure == 0, tile := t }
  | _, _, _ => none

/-- Progress of a translation through the beats of one transaction: the counts, the words of its image, proof and stray
writes, and whether the frame has completed. -/
structure Scan where
  counter : Nat
  dark : Nat
  clip : Nat
  stray : Nat
  complete : Bool
  image : List WordWrite
  proof : List WordWrite
  strays : List WordWrite
  deriving DecidableEq, Repr

/-- Lane l (0 or 1) of a beat is complete: both of its byte enables are set (R15, R195). -/
def laneComplete (be : BitVec 4) (l : Nat) : Bool := be.getLsbD (2 * l) && be.getLsbD (2 * l + 1)

/-- The sample of a lane: bits 11:0 (R15). -/
def laneSample (d : Word) (l : Nat) : Nat := bits d (16 * l) 12

/-- The stored value of a sample (R15): the sample × 2^(4 − step). -/
def storedValue (step sample : Nat) : Nat := sample * 2 ^ (4 - step)

/-- A complete lane is written: every one in exposure 0, later only below the clip level (R16). -/
def laneWritten (c : FrameCtx) (w : WordWrite) (l : Nat) : Bool :=
  laneComplete w.be l && (c.first || laneSample w.data l < c.exposure.clip)

/-- The image word of a kept beat: stored values of the written lanes, with their enables (R16). -/
def imageWord (c : FrameCtx) (o : Nat) (w : WordWrite) : WordWrite :=
  let v := fun l => storedValue c.exposure.step (laneSample w.data l)
  let en := fun l => if laneWritten c w l then 3 * 4 ^ l else 0
  { addr := c.geo.dest c.row c.col o, data := BitVec.ofNat 32 (v 0 + v 1 * 2 ^ 16)
    be := BitVec.ofNat 4 (en 0 + en 1) }

/-- Complete lanes of a beat whose sample satisfies a test: 0, 1 or 2 (R18). -/
def countLanes (w : WordWrite) (p : Nat → Bool) : Nat :=
  ([0, 1].filter fun l => laneComplete w.be l && p (laneSample w.data l)).length

/-- A stray beat (R12). -/
def Scan.strayBeat (sc : Scan) (w : WordWrite) : Scan :=
  { sc with stray := min 4294967295 (sc.stray + 1), strays := sc.strays ++ [w] }

/-- A frame beat of frame word o (R14 to R18, R20). -/
def Scan.frameBeat (sc : Scan) (c : FrameCtx) (o : Nat) (w : WordWrite) : Scan :=
  let kept := c.geo.kept o
  { sc with
    counter := sc.counter + 1
    complete := c.geo.frameWords ≤ sc.counter + 1
    dark := if kept then min 65535 (sc.dark + countLanes w (· < c.exposure.floor)) else sc.dark
    clip := if kept then min 65535 (sc.clip + countLanes w (c.exposure.clip ≤ ·)) else sc.clip
    image := if kept then sc.image ++ [imageWord c o w] else sc.image
    proof :=
      match c.first, c.proofBase with
      | true, some b => sc.proof ++ [{ w with addr := b + c.index * c.geo.frameBytes + o * 4 }]
      | _, _ => sc.proof }

/-- One beat, in beat order (R11, R12): stray when the frame is CLOSED or completed, or the word lies beyond the frame. A
beat below the window's base is stray too: a write held under an older window can have one once the window moved up, and
the spec leaves open what it is (R12, R108; DESIGN CHOICE, log entry 28). -/
def Scan.beat (c : Option FrameCtx) (sc : Scan) (w : WordWrite) : Scan :=
  match c with
  | none => sc.strayBeat w
  | some c =>
    let o := (w.addr - c.window) / 4
    if sc.complete || w.addr < c.window || c.geo.frameWords ≤ o then sc.strayBeat w else sc.frameBeat c o w

/-- The Merge Unit's state as a translation starts from it. -/
def State.scanStart (s : State) : Scan :=
  { counter := s.merge.counter, dark := s.merge.dark, clip := s.merge.clip, stray := s.merge.stray, complete := false
    image := [], proof := [], strays := [] }

/-- A capture transaction translated against the Merge Unit's state as it stands, with no effect on it (R112). -/
def State.translate (req : WriteReq) (s : State) : Scan :=
  (writeWords req).foldl (Scan.beat s.frameCtx) s.scanStart

/-- The writes of a translation: image, proof and stray, in that order (R19). -/
def Scan.writes (sc : Scan) (current : Option TileNo) : List QWrite :=
  [lineWrite sc.image .merge current, lineWrite sc.proof .merge current, lineWrite sc.strays .upstream none].filterMap id

/-! ## Completion and the skip rule (1.5) -/

/-- The tile with a statistics pair appended (R21). -/
def Tile.addStats (t : Tile) (dark clip : Nat) : Tile := { t with stats := t.stats ++ [(dark, clip)] }

/-- The skip rule's decision at a completion (R21, R63): the tile returns to ARMED for the next exposure, or enters
CLOSING with outcome DONE and the heat value as closing heat (R64). -/
def State.completeFrame (t : TileNo) (tile : Tile) (plate : Plate) (s : State) : State :=
  let e := s.merge.exposure
  let tile := tile.addStats s.merge.dark s.merge.clip
  if e + 1 < plate.bracket.length ∧ s.merge.dark ≠ 0 then
    { s.setTile t (some (tile.arm (e + 1) s.lamp.zone)) with seq := { s.seq with expTimer := none } }
  else
    let skipped := decide (e + 1 < plate.bracket.length)
    s.closeCurrent t { tile with skipped := skipped } .done (some s.lamp.heat)

/-- The Merge Unit takes the counts of a translation. -/
def State.takeCounts (sc : Scan) (s : State) : State :=
  { s with merge := { s.merge with
      frame := if sc.complete then .closed else s.merge.frame
      counter := sc.counter, dark := sc.dark, clip := sc.clip, stray := sc.stray } }

/-- The completion is handed over after the transaction's writes were taken (R20). -/
def State.handOver (sc : Scan) (s : State) : State :=
  match sc.complete, s.currentTile with
  | true, some (t, tile, plate) => s.completeFrame t tile plate
  | _, _ => s

end Sys2Proof.Machine
end

