-- ==== Sys2Proof/Machine/UpstreamPort.lean ====
section
/-! DEFINITION. Upstream Port and Window Decoder: taking requests, their classes, the held write and tail admission (05),
and what the Plan Reader and the Report Writer do with POST and CONSUME writes at decode (09 9.2, 10 10.6). -/

namespace Sys2Proof.Machine

/-! ## Window Decoder (5.3) -/

/-- The full-word beat of a write at an address (R103), if it has one: its value. -/
def fullBeatAt (w : WriteReq) (a : Nat) : Option Word :=
  ((writeWords w).find? fun x => x.addr == a && x.be == 15#4).map (·.data)

/-- The plan slot whose post word a write covers with a full-word beat, and the value (R103, R104). -/
def State.postOf (s : State) (w : WriteReq) : Option (PlanSlot × Word) :=
  (List.finRange 32).findSome? fun k => (fullBeatAt w (s.postWord k)).map fun v => (k, v)

/-- The class of a write, by the first class of Table 5-4 that fits (R103). -/
def State.classify (s : State) (w : WriteReq) : WriteClass :=
  match s.postOf w with
  | some (k, v) => .post k v
  | none =>
    match s.plan.station with
    | none => .plain
    | some st =>
      match fullBeatAt w (st.reportBase + 4) with
      | some v => .consume v
      | none =>
        if w.master = st.captureMaster ∧ inRange st.window w.addr.toNat then .capture
        else if (s.holdOf (addrLine w.addr)).isSome then .heldWrite
        else .plain

/-! ## Plan Reader: presenting reads and starting takes (9.2, 9.3) -/

/-- The address of a line of a plan slot. -/
def State.planLine (s : State) (k : PlanSlot) (line : Fin 8) : Nat := s.slotBase k + 32 * line.val

/-- The Plan Reader presents a line read of a slot (R125, R172): it takes its snapshot, and becomes the FETCH class request
at once when that is empty. -/
def State.presentFetch (k : PlanSlot) (line : Fin 8) (s : State) : State :=
  let f := match s.pwq.snapshot (s.planLine k line) with
    | [] => Fetch.ready line
    | ids => Fetch.waiting line ids
  { s with down := { s.down with fetch := f } }

/-- The port's held write is a POST write of the slot (R173, log entry 12). -/
def State.postHeld (s : State) (k : PlanSlot) : Bool :=
  match s.port.held with
  | some { cls := .post k' _, .. } => k' == k
  | _ => false

/-- The first posted slot in ring order from the take index (R171). -/
def Plan.nextPosted (p : Plan) : Option PlanSlot :=
  ((List.range 32).map fun i => p.takeIndex + Fin.ofNat 32 i).find? fun k => p.posted[k]

/-- The start of a take (R171, R172): the flag is cleared, the slot is being taken, the take index is its number, and line
7 is presented, once the slot's post write is no longer held (R173). -/
def State.startTake (k : PlanSlot) (s : State) : State :=
  let s : State := { s with plan := { s.plan with
      posted := s.plan.posted.set k false
      takeIndex := k
      take := some { slot := k, step := .fetching, post := none, body := [] } } }
  if s.postHeld k then { s with down := { s.down with fetch := .deferred } } else s.presentFetch k 7

/-- The search for a posted slot, while no slot is being taken (R171). -/
def State.search (s : State) : State :=
  match s.plan.take, s.plan.nextPosted with
  | none, some k => s.startTake k
  | _, _ => s

/-- The slot is the slot being taken. -/
def State.taking (s : State) (k : PlanSlot) : Bool := s.plan.take.any (·.slot == k)

/-- A POST write's effect on the posted flag (Table of R170). -/
def State.postFlag (k : PlanSlot) (v : Word) (s : State) : State :=
  if s.taking k then s
  else { s with plan := { s.plan with posted := s.plan.posted.set k (v != 0) } }

/-- A consume value is taken when it is below N and lies forward from C no further than the drained produce index
(R192). -/
def consumeValid (n drained consume v : Nat) : Bool :=
  v < n && (v + n - consume) % n ≤ (drained + n - consume) % n

/-- A CONSUME write's effect on C and IRQ (R191, R192). -/
def State.consumeValue (v : Word) (s : State) : State :=
  match s.plan.station with
  | none => s
  | some st =>
    if consumeValid st.capacity s.report.drained s.report.consume v.toNat then
      { s with report := { s.report with consume := v.toNat } }.setIrq
    else s

/-! ## Placing writes (5.2, 5.4) -/

/-- The queue writes that a write of a class yields now (R100): a CAPTURE write those of its translation, a HELD-WRITE
none, any other one write to its own line unless all its enables are clear. -/
def State.queueWrites (c : WriteClass) (w : WriteReq) (s : State) : List QWrite :=
  match c with
  | .capture => (s.translate w).writes s.seq.current
  | .heldWrite => []
  | _ => (lineWrite (writeWords w) .upstream none).toList

/-- A write whose queue writes are placed has entered: a CAPTURE write also moves the counts and hands over a completion
(R11, R20). -/
def State.enterWrite (c : WriteClass) (w : WriteReq) (s : State) : State :=
  let placed := s.placeAll (s.queueWrites c w)
  match c with
  | .capture => (placed.takeCounts (s.translate w)).handOver (s.translate w)
  | _ => placed

/-- Whether a decoded write's queue writes can all be placed at once: need 0, or covered by the free entries and not kept
for the other side (R112, R113). With no held write the upstream side does not wait, so nothing is kept then; a Report Writer
side that waits alone takes entries in the step in which they cover its need (`State.follows`), so none is free then. -/
def State.canPlace (ws : List QWrite) (s : State) : Bool := s.pwq.need ws ≤ s.pwq.free

/-- An upstream placement that enters while the Report Writer side waits passes the tail turn to it (R113). -/
def State.passTurnToReport (s : State) : State :=
  if s.report.waits then { s with port := { s.port with turn := .report } } else s

/-- The port's held write, and the sequencer told when it is the capture master's (R101, R102). -/
def State.holdWrite (c : WriteClass) (w : WriteReq) (s : State) : State :=
  { s with
    port := { s.port with held := some { req := w, cls := c } }
    seq := if s.plan.station.any (·.captureMaster == w.master) then { s.seq with captureHeld := true } else s.seq }

/-- A decoded write enters and is answered OK, or becomes the held write (R100, R101). -/
def State.postWrite (c : WriteClass) (w : WriteReq) (s : State) : State :=
  let ws := s.queueWrites c w
  if s.canPlace ws then
    let s := if ws.isEmpty then s else s.passTurnToReport
    (s.enterWrite c w).answer w.master .ok []
  else s.holdWrite c w

/-! ## Taking requests (5.1, 5.2) -/

/-- The port takes no request of a master with a read outstanding or a write held (R99, R101). -/
def State.blocked (s : State) (m : Master) : Bool :=
  s.port.outstanding[m] || s.port.held.any (·.req.master == m)

/-- A decoded write acts by its class (R100, R104, R105, R106). -/
def State.decodeWrite (w : WriteReq) (s : State) : State :=
  match s.classify w with
  | .post k v =>
    let s := (s.postFlag k v).postWrite (.post k v) w
    if v = 0 then s else s.search
  | .consume v => (s.consumeValue v).postWrite (.consume v) w
  | .capture => s.postWrite .capture w
  | .heldWrite => (s.answer w.master .fault []).offer (.writeRefused w.master (addrLine w.addr))
  | .plain => s.postWrite .plain w

/-- A write request reaches the port: answered FAULT on its address and beats alone, before anything else (R98, log entry
13); not taken while its master is blocked (R99, R101); not decoded while a write is held (R101); else decoded. -/
def State.presentWrite (w : WriteReq) (s : State) : State :=
  if !fitsLine w.addr w.beats.length then s.answer w.master .fault []
  else if s.blocked w.master then s
  else if s.port.held.isSome then s
  else s.decodeWrite w

/-- A decoded read sets its master's flag (R99) and goes to the Hold Unit when its line lies in a held band (R83), else
toward memory (R106). -/
def State.decodeRead (r : ReadReq) (s : State) : State :=
  let s' : State := { s with port := { s.port with outstanding := s.port.outstanding.set r.master true } }
  match s.holdOf (addrLine r.addr) with
  | some h => s'.heldReadArrives h ((s.hold.pool[h].map (·.policy)).getD .wait) r
  | none => s'.forward { master := r.master, addr := r.addr, beats := r.beats, stale := false }

/-- A read request reaches the port: answered FAULT before anything else (R98); not taken while its master is blocked (R99,
R101); else decoded. -/
def State.presentRead (r : ReadReq) (s : State) : State :=
  if !fitsLine r.addr r.beats then s.answer r.master .fault []
  else if s.blocked r.master then s
  else s.decodeRead r

/-! ## The held write (R101, R112, R113) -/

/-- The held write may enter: need 0, or need covered by the free entries and not kept for the Report Writer side. -/
def State.heldMayEnter (ws : List QWrite) (s : State) : Bool :=
  s.pwq.need ws == 0
    || (s.pwq.need ws ≤ s.pwq.free && !(s.report.waits && s.port.turn == .report))

/-- The port's held write may enter now (R101). -/
def State.heldReady (s : State) : Bool :=
  s.port.held.any fun h => s.heldMayEnter (s.queueWrites h.cls h.req)

/-- The port is free of its held write, and a capture master is released (R101, R102). -/
def State.releaseHeld (m : Master) (s : State) : State :=
  { s with
    port := { s.port with held := none }
    seq := if s.plan.station.any (·.captureMaster == m) then { s.seq with captureHeld := false } else s.seq }

/-- A deferred line 7 is presented once the post write has entered (R173). -/
def State.presentDeferred (s : State) : State :=
  match s.down.fetch, s.plan.take with
  | .deferred, some k => s.presentFetch k.slot 7
  | _, _ => s

/-- The held write enters the PWQ as soon as it can be placed, is answered OK and the port is free (R101). -/
def heldWriteEntry (s : State) : State :=
  match s.port.held with
  | none => s
  | some h =>
    let ws := s.queueWrites h.cls h.req
    if s.heldMayEnter ws then
      let s := if ws.isEmpty then s else s.passTurnToReport
      ((((s.releaseHeld h.req.master).enterWrite h.cls h.req).answer h.req.master .ok [])).presentDeferred
    else s

end Sys2Proof.Machine
end

