-- ==== Sys2Proof/Machine/StageUnit.lean ====
section
/-! DEFINITION. Stage Position Unit: quadrature decoding, position, home edges, dwell, tolerance (07). -/

namespace Sys2Proof.Machine

/-! ## Quadrature decoding (7.3) -/

/-- What Table 7-2 gives for a reference pair and a new pair. -/
inductive Transition where
  | still
  | forward
  | backward
  | invalid
  deriving DecidableEq, Repr

/-- Table 7-2, from the encoder reference (A, B) to the new filtered pair; true is high. -/
def transition (ref new : Bool × Bool) : Transition :=
  match ref, new with
  | (false, false), (true, false) => .forward
  | (false, false), (false, true) => .backward
  | (false, false), (true, true) => .invalid
  | (false, false), (false, false) => .still
  | (true, false), (true, false) => .still
  | (true, false), (false, true) => .invalid
  | (true, false), (true, true) => .forward
  | (true, false), (false, false) => .backward
  | (true, true), (true, false) => .backward
  | (true, true), (false, true) => .forward
  | (true, true), (true, true) => .still
  | (true, true), (false, false) => .invalid
  | (false, true), (true, false) => .invalid
  | (false, true), (false, true) => .still
  | (false, true), (true, true) => .backward
  | (false, true), (false, false) => .forward

/-- The filtered (A, B) pair of an axis. -/
def Stage.pair (g : Stage) : Axis → Bool × Bool
  | .x => (g.xa.level, g.xb.level)
  | .y => (g.ya.level, g.yb.level)

/-- The encoder reference of an axis. -/
def Stage.ref (g : Stage) : Axis → Bool × Bool
  | .x => g.refX
  | .y => g.refY

/-- The position of an axis. -/
def Stage.pos (g : Stage) : Axis → BitVec 24
  | .x => g.posX
  | .y => g.posY

def Stage.setPos (g : Stage) (ax : Axis) (p : BitVec 24) : Stage :=
  match ax with
  | .x => { g with posX := p }
  | .y => { g with posY := p }

/-- The encoder reference of an axis becomes its filtered pair (R136, R137). -/
def Stage.takeRef (g : Stage) : Axis → Stage
  | .x => { g with refX := g.pair .x }
  | .y => { g with refY := g.pair .y }

/-- The filtered level of one line of an axis has changed. -/
def Stage.flip (g : Stage) : Axis → EncLine → Stage
  | .x, .a => { g with xa := .moved (!g.xa.level) }
  | .x, .b => { g with xb := .moved (!g.xb.level) }
  | .y, .a => { g with ya := .moved (!g.ya.level) }
  | .y, .b => { g with yb := .moved (!g.yb.level) }

/-- The filter of a home line. -/
def Stage.home (g : Stage) : Axis → Filter
  | .x => g.homeX
  | .y => g.homeY

def Stage.setHome (g : Stage) (ax : Axis) (level : Bool) : Stage :=
  match ax with
  | .x => { g with homeX := .moved level }
  | .y => { g with homeY := .moved level }

/-- The dwell of the station record, none while UNCONFIGURED. -/
def State.dwellTime (s : State) : Option Nat := s.plan.station.map (·.dwell)

/-- The dwell timer restarts from 0; with a dwell of 0 it expires in its own step (R141). -/
def State.restartDwell (s : State) : State :=
  { s with stage := { s.stage with dwell := if s.dwellTime = some 0 then none else some 0 } }

/-- A count change: the new position and the dwell restarted (R136, R141). -/
def State.count (ax : Axis) (p : BitVec 24) (s : State) : State :=
  { s with stage := s.stage.setPos ax p }.restartDwell

/-- The axis that changed lies beyond the watched tolerance (R144). -/
def Stage.exits (g : Stage) (ax : Axis) : Bool :=
  match g.watched with
  | none => false
  | some w =>
    match ax with
    | .x => !within g.posX w.x w.tolerance
    | .y => !within g.posY w.y w.tolerance

/-- The tolerance check: an exit aborts the current tile with MOTION (R68, R144). -/
def State.checkTolerance (ax : Axis) (s : State) : State := if s.stage.exits ax then s.abort .motion else s

/-- The decoder of an axis acts on its filtered pair (R136, R137, R146). -/
def State.decodeAxis (ax : Axis) (s : State) : State :=
  let tr := transition (s.stage.ref ax) (s.stage.pair ax)
  let s : State := { s with stage := s.stage.takeRef ax }
  match tr with
  | .still => s
  | .forward => (s.count ax (s.stage.pos ax + 1)).checkTolerance ax
  | .backward => (s.count ax (s.stage.pos ax - 1)).checkTolerance ax
  | .invalid => if s.configured then (s.offer (.encoderFault ax (s.stage.pos ax))).abort .encoder else s

/-- One line of an axis changes its filtered level (R136). -/
def validTransition (ax : Axis) (line : EncLine) (s : State) : State :=
  State.decodeAxis ax { s with stage := s.stage.flip ax line }

/-- Both lines of an axis change their filtered levels in one CLK cycle (R137). -/
def invalidTransition (ax : Axis) (s : State) : State :=
  State.decodeAxis ax { s with stage := (s.stage.flip ax .a).flip ax .b }

/-- A rising filtered home edge (R139): the counter becomes 0, with the dwell restarted if it held another value, and a
current tile is aborted with HOMED. A level that is high already has no rising edge. An edge at a counter already 0 leaves a
settled stage settled (R141), and a tile that R53 then allows is armed in the step of the abort, whatever the dwell; R140 says
that only a dwell of 0 lets R53 arm between two edges (DESIGN CHOICE, log entry 29). -/
def homeEdge (ax : Axis) (s : State) : State :=
  if (s.stage.home ax).level then s
  else
    let s : State := { s with stage := s.stage.setHome ax true }
    let s := if s.stage.pos ax = 0 then s else s.count ax 0
    s.abort .homed

/-- A falling filtered home edge changes the filtered level alone (R139). -/
def fallingHomeEdge (ax : Axis) (s : State) : State :=
  if (s.stage.home ax).level then { s with stage := s.stage.setHome ax false } else s

/-- The dwell timer reaches the dwell: the stage is settled (R141). No tick runs while UNCONFIGURED (R142). -/
def dwellExpiry (s : State) : State :=
  if s.configured then { s with stage := { s.stage with dwell := none } } else s

/-! ## Filters that complete (R134, R135) -/

/-- The run count has reached the depth: the filtered level takes the sampled level. -/
def Filter.due (f : Filter) (depth : Nat) : Bool := f.raw != f.level && depth ≤ f.run

/-- The line events that the filters' completions stand for, in the order of Table 7-1. -/
def Stage.dueEvents (g : Stage) (depth : Nat) : List Instr :=
  let axis := fun (ax : Axis) (a b : Filter) =>
    match a.due depth, b.due depth with
    | true, true => [Instr.invalidTransition ax]
    | true, false => [Instr.validTransition ax .a]
    | false, true => [Instr.validTransition ax .b]
    | false, false => []
  let home := fun (ax : Axis) (h : Filter) =>
    if h.due depth then [if h.level then Instr.fallingHomeEdge ax else Instr.homeEdge ax] else []
  axis .x g.xa g.xb ++ axis .y g.ya g.yb ++ home .x g.homeX ++ home .y g.homeY
    ++ (if g.cut.due depth then [if g.cut.level then Instr.cutFall else Instr.cutRise] else [])

/-- The effect of a line event. -/
def lineEvent (c : Instr) (s : State) : State :=
  match c with
  | .validTransition ax line => validTransition ax line s
  | .invalidTransition ax => invalidTransition ax s
  | .homeEdge ax => homeEdge ax s
  | .fallingHomeEdge ax => fallingHomeEdge ax s
  | .cutRise => cutRise s
  | .cutFall => cutFall s
  | _ => s

/-- The filters whose run count has reached the depth complete, each with the effects of its edge, in a free order
(R135). -/
def State.completeFilters (s : State) : State :=
  let evs := s.stage.dueEvents s.filterDepth
  (freeOrder s.clock.draws evs).foldl (fun s c => refresh (lineEvent c s)) (s.draw evs.length)

end Sys2Proof.Machine
end

