-- ==== Sys2Proof/Machine/PlanReader.lean ====
section
/-! DEFINITION. Plan Reader: fetch responses, the four record kinds and the end of a take (09). -/

namespace Sys2Proof.Machine

/-! ## The take -/

/-- The take is decided: no line is fetched any more and its result word becomes ready (R174, R176). -/
def State.finishTake (result : Word) (s : State) : State :=
  { s with
    plan := { s.plan with take := s.plan.take.map fun k => { k with step := .finished result } }
    down := { s.down with fetch := .idle } }

/-- The kind field of the take: bits 7:0 of the fetched post word, 0 when line 7 was not read (R174, R175). -/
def Take.kindField (k : Take) : Nat := bits (k.post.getD 0) 0 8

/-- The kind of the record being taken. -/
def Take.kind (k : Take) : Option Kind := k.post.bind kindOf

/-- The take ends with a result code and detail (R176). -/
def State.result (k : Take) (code : Code) (detail : Nat) (s : State) : State :=
  s.finishTake (resultWord k.kindField code detail)

/-- The eight words of a line. -/
def lineOfWords (data : List Word) : List Word := (List.range 8).map fun i => data.getD i 0

/-- The Plan Reader changes its take. -/
def State.setTake (k : Take) (s : State) : State := { s with plan := { s.plan with take := some k } }

/-- Line 7 has been read (R172, R175): the kind is decided, and the first record line presented. -/
def State.postRead (k : Take) (data : List Word) (s : State) : State :=
  let k := { k with post := some ((lineOfWords data).getD 7 0) }
  match k.kind with
  | none => (s.setTake k).result k .badKind 0
  | some _ => (s.setTake k).presentFetch k.slot 0

/-- A record line has been read (R172): the next one is presented, or the fetch is complete. -/
def State.lineRead (k : Take) (line : Fin 8) (data : List Word) (s : State) : State :=
  let k := { k with body := k.body ++ lineOfWords data }
  if line.val + 1 < (k.kind.map Kind.lines).getD 0 then (s.setTake k).presentFetch k.slot (line + 1)
  else (s.setTake { k with step := .fetched })

/-- A response to the outstanding fetch read (R133, R172, R174); with none outstanding it is ignored (R122). -/
def State.fetchResponds (st : DownStatus) (data : List Word) (s : State) : State :=
  match s.down.fetch, s.plan.take with
  | .outstanding line, some k =>
    let s : State := { s with down := { s.down with fetch := .idle } }
    match st with
    | .fault => s.result k .fetchFault 0
    | .ok => if line = 7 then s.postRead k data else s.lineRead k line data
  | _, _ => s

/-- The record that is fetched and waits to be processed, of a kind. -/
def State.fetched (s : State) (kind : Kind) : Option Take :=
  s.plan.take.filter fun k => k.step == .fetched && k.kind == some kind

/-! ## STATION (9.5) -/

/-- The three areas of R177 are pairwise disjoint. -/
def State.stationApart (s : State) (st : Station) : Bool :=
  !overlaps st.window st.reportArea && !overlaps st.window s.planArea && !overlaps st.reportArea s.planArea

/-- The busy check of R177 holds: every slot FREE and the Report Queue empty. -/
def State.idleForStation (s : State) : Bool :=
  s.asm.plates.toList.all Option.isNone && s.report.queue.isEmpty

/-- A header write in hand belongs to the old ring from now on (R193). -/
def ReadyLine.toOldRing : ReadyLine → ReadyLine
  | .header b p _ => .header b p false
  | l => l

/-- A header write that entered an entry belongs to the old ring from now on (R190). -/
def Entry.toOldRing (e : Entry) : Entry := { e with header := none }

/-- The Report Writer takes a new ring (R193): indices 0 and IRQ low; header writes of the old ring no longer count
(R190); the new header line becomes ready behind them. -/
def State.newRing (st : Station) (s : State) : State :=
  { s with
    pwq := { s.pwq with entries := s.pwq.entries.map Entry.toOldRing }
    report := { s.report with
      produce := 0, drained := 0, consume := 0, irq := false
      ready := s.report.ready.map ReadyLine.toOldRing ++ [.newHeader st.reportBase] } }

/-- The Lamp Drive takes the settings (R157). -/
def State.lampStation (st : Station) (s : State) : State :=
  ({ s with lamp := { s.lamp with
      period := if s.lamp.on then s.lamp.period else st.pwmPeriod
      idleTimer := 0 } }).judgeZone

/-- Acceptance of a STATION record (R178): the settings are stored and every block takes its own; the ticks restart
(R157), the dwell restarts (R142), the watched target is none (R143), the capture master held flag is formed again (R102),
and filters whose run count has reached the new depth complete (R135). DESIGN CHOICE where the spec says only 'in that
step': the filters complete last, on a station that is CONFIGURED, its dwell restarted (log entry 15); the records of their
edges are offered although R157 names none at an acceptance (log entry 26), and their lines stand behind the new header
line, in the new ring (R193, log entry 27). -/
def State.acceptStation (st : Station) (s : State) : State :=
  let s : State := { s with
    plan := { s.plan with station := some st }
    clock := { s.clock with us := 0, ms := 0, lampDiv := 0 }
    stage := { s.stage with watched := none }
    seq := { s.seq with captureHeld := s.port.held.any (·.req.master == st.captureMaster) } }
  ((s.newRing st).restartDwell.lampStation st).completeFilters

/-- STATION: field, overlap and busy checks in this order, then acceptance (R177, R178). -/
def stationRecord (s : State) : State :=
  match s.fetched .station with
  | none => s
  | some k =>
    let st := stationOf k.body
    match firstFailing (stationChecks k.body) with
    | some i => s.result k .badField i
    | none =>
      if !s.stationApart st then s.result k .overlap 0
      else if !s.idleForStation then s.result k .busy 0
      else (s.acceptStation st).result k .accepted 0

/-! ## PLATE (9.6) -/

/-- The plate of a record, before it has tiles and holds. -/
def recordPlate (ws : List Word) : Plate := plateOf ws [] []

/-- The areas that a new plate must stay apart from (R179): those of every resident plate, the capture window, the plan
area and the report area. -/
def State.takenAreas (s : State) (st : Station) : List Range :=
  (s.asm.plates.toList.filterMap id).flatMap Plate.areas ++ [st.window, s.planArea, st.reportArea]

/-- The image and proof areas overlap neither each other nor any taken area (R179). -/
def State.plateApart (s : State) (st : Station) (plate : Plate) : Bool :=
  let own := plate.areas
  (match own with
    | [a, b] => !overlaps a b
    | _ => true)
  && own.all fun a => (s.takenAreas st).all fun b => !overlaps a b

/-- PLATE: station, field, overlap and room checks in this order, then acceptance into the lowest FREE slot (R175, R179,
R180, R28). -/
def plateRecord (s : State) : State :=
  match s.fetched .plate with
  | none => s
  | some k =>
    match s.plan.station with
    | none => s.result k .noStation 0
    | some st =>
      match firstFailing (plateChecks k.body) with
      | some i => s.result k .badField i
      | none =>
        if !s.plateApart st (recordPlate k.body) then s.result k .overlap 0
        else if !s.hasRoom (geometryOf k.body) then s.result k .noRoom 0
        else
          match s.freeSlots with
          | [] => s.result k .noRoom 0
          | p :: _ => (s.acceptPlate p k.body).result k .accepted p.val

/-! ## RETAKE and DISMISS (9.7, 9.8) -/

/-- The slot a RETAKE or DISMISS names, when its field is 0..3. -/
def slotField (ws : List Word) : Option SlotNo :=
  let n := (wordAt ws 0).toNat
  if h : n < 4 then some ⟨n, h⟩ else none

/-- The plate that a slot and tag name: ASSEMBLING or COMPLETE, with that tag (R181, R182). -/
def State.namedPlate (s : State) (p : SlotNo) (tag : Word) : Option Plate :=
  s.asm.plates[p].filter fun plate => (plate.state == .assembling || plate.state == .complete) && plate.tag == tag

/-- The band of a tile row has a HELD hold, or a hold is FREE (R181). -/
def State.holdForRow (s : State) (plate : Plate) (row : Nat) : Bool :=
  (plate.bandHold row).isSome || !s.freeHolds.isEmpty

/-- RETAKE: the checks of R181 in order, then acceptance. -/
def retakeRecord (s : State) : State :=
  match s.fetched .retake with
  | none => s
  | some k =>
    if !s.configured then s.result k .noStation 0
    else
      match slotField k.body with
      | none => s.result k .badField 0
      | some p =>
        match s.namedPlate p (wordAt k.body 1) with
        | none => s.result k .wrongPlate 0
        | some plate =>
          match s.tileOf plate (wordAt k.body 2).toNat with
          | none => s.result k .badField 2
          | some (t, tile) =>
            if !tile.final then s.result k .tileBusy 0
            else if !s.holdForRow plate tile.row then s.result k .noHold 0
            else (s.acceptRetake p t tile).result k .accepted 0

/-- DISMISS: slot and tag are checked, and the take waits for a Report Queue place (R182). -/
def dismissRecord (s : State) : State :=
  match s.fetched .dismiss with
  | none => s
  | some k =>
    if !s.configured then s.result k .noStation 0
    else
      match slotField k.body with
      | none => s.result k .badField 0
      | some p =>
        match s.namedPlate p (wordAt k.body 1) with
        | none => s.result k .wrongPlate 0
        | some _ => s.setTake { k with step := .waitingReservation }

/-- Acceptance of a DISMISS of a resident plate, its place reserved (R45, R46, R183). -/
def State.acceptDismiss (p : SlotNo) (plate : Plate) (s : State) : State :=
  let s := s.modPlate p fun pl => { pl with dismissReserved := true }
  match plate.state with
  | .complete => s.freePlate p plate.tilesDone plate.tilesFailed
  | .assembling => (s.discardCurrent p).discardPlate p plate
  | .dismissing _ _ => s

/-- A waiting DISMISS with the plate it names, while a Report Queue place is neither occupied nor reserved (R182). -/
def State.dismissReady (s : State) : Option (Take × SlotNo × Plate) :=
  match s.plan.take with
  | none => none
  | some k =>
    match slotField k.body with
    | none => none
    | some p =>
      match s.asm.plates[p] with
      | none => none
      | some plate =>
        if k.step == .waitingReservation && s.report.used + 1 ≤ Config.reportPlaces then some (k, p, plate) else none

/-- DISMISS_RESERVATION: a waiting DISMISS reserves a Report Queue place and is accepted in that step against the plate as
it stands (R182, R183). -/
def dismissReservation (s : State) : State :=
  match s.dismissReady with
  | none => s
  | some (k, p, plate) => ((s.reserve 1).acceptDismiss p plate).result k .accepted 0

end Sys2Proof.Machine
end

