-- ==== Sys2Proof/Machine/Downstream.lean ====
section
/-! DEFINITION. Downstream Port and Arbiter: grants, responses, and the retirement of drained entries (06, 05 5.6). -/

namespace Sys2Proof.Machine

/-! ## Drains (R116) -/

/-- Whether word i of an entry holds an enabled byte. -/
def Entry.usesWord (e : Entry) (i : Nat) : Bool := ((e.bytes.toList.drop (4 * i)).take 4).any Option.isSome

/-- The word positions that hold an enabled byte, rising. -/
def Entry.usedWords (e : Entry) : List Nat := (List.range 8).filter e.usesWord

/-- A byte of an entry as it is driven: 0 where its enable is clear (11.5). -/
def drivenByte (b : Option Byte) : Byte := b.getD 0

/-- Beat of word i: the entry's bytes with the entry's enables (R116, R195). -/
def Entry.beat (e : Entry) (i : Nat) : Beat :=
  let b := fun j => (e.bytes.toList[4 * i + j]?).join
  { data := drivenByte (b 3) ++ drivenByte (b 2) ++ drivenByte (b 1) ++ drivenByte (b 0)
    be := BitVec.ofBool (b 3).isSome ++ BitVec.ofBool (b 2).isSome ++ BitVec.ofBool (b 1).isSome
      ++ BitVec.ofBool (b 0).isSome }

/-- The downstream write of a drain: from the lowest to the highest word that holds an enabled byte (R116, R121). -/
def Entry.drainTxn (e : Entry) : Txn :=
  let lo := e.usedWords.head?.getD 0
  let hi := e.usedWords.getLast?.getD 0
  .write (e.line + 4 * lo) ((List.range (hi - lo + 1)).map fun i => e.beat (lo + i))

/-- No drain is in flight, and the queue has a head: the DRAIN class has a request (R126). -/
def State.drainRequest (s : State) : Bool :=
  !s.pwq.entries.isEmpty && s.pwq.entries.all (·.state == .waiting)

/-- A transaction is issued (R121). -/
def State.issue (t : Txn) (s : State) : State := { s with down := { s.down with issued := s.down.issued ++ [t] } }

/-! ## Grants (6.3) -/

/-- Whether a class has a request (R124 to R126). -/
def State.requests (s : State) : ArbClass → Bool
  | .read => !s.reads.ready.isEmpty
  | .drain => s.drainRequest
  | .fetch =>
    match s.down.fetch with
    | .ready _ => true
    | _ => false

/-- The class after a class in the cyclic order READ, DRAIN, FETCH (R129). -/
def ArbClass.next : ArbClass → ArbClass
  | .read => .drain
  | .drain => .fetch
  | .fetch => .read

/-- The first class with a request in the cyclic order from a class (R128 from READ, R129 from the pointer). -/
def State.firstFrom (s : State) (c : ArbClass) : Option ArbClass :=
  if s.requests c then some c
  else if s.requests c.next then some c.next
  else if s.requests c.next.next then some c.next.next
  else none

/-- The class that a grant goes to by the arbitration mode (R127, R128, R129). -/
def State.grantClass (s : State) : Option ArbClass :=
  match s.arbMode with
  | .fixed =>
    if Config.highWater ≤ s.pwq.entries.length && s.requests .drain then some .drain else s.firstFrom .read
  | .rotate => s.firstFrom s.down.rotation

/-- A grant to the READ class issues its oldest read (R121, R124). -/
def State.grantRead (s : State) : State :=
  match s.reads.ready with
  | [] => s
  | r :: rest =>
    { s with reads := { s.reads with ready := rest, out := s.reads.out ++ [r] } }.issue
      (.read (.master r.master) r.addr.toNat r.beats)

/-- A grant to the DRAIN class makes the head entry DRAINING and issues its write (R116, R126). -/
def State.grantDrain (s : State) : State :=
  match s.pwq.entries with
  | [] => s
  | e :: rest =>
    { s with pwq := { s.pwq with entries := { e with state := .draining } :: rest } }.issue e.drainTxn

/-- A grant to the FETCH class issues the read of one whole line of the slot being taken (R121, R125). -/
def State.grantFetch (s : State) : State :=
  match s.down.fetch, s.plan.take with
  | .ready line, some k =>
    { s with down := { s.down with fetch := .outstanding line } }.issue (.read .fetch (s.planLine k.slot line) 8)
  | _, _ => s

/-- The transaction of a granted class is issued. -/
def State.grant (c : ArbClass) (s : State) : State :=
  match c with
  | .read => s.grantRead
  | .drain => s.grantDrain
  | .fetch => s.grantFetch

/-- In ROTATE mode the pointer moves to the class after the one granted (R129); FIXED leaves it (R128). -/
def State.moveRotation (c : ArbClass) (s : State) : State :=
  match s.arbMode with
  | .fixed => s
  | .rotate => { s with down := { s.down with rotation := c.next } }

/-- The Downstream Port can accept a transaction (log entry 19): a class with a request is granted; with none, no grant is
made, and the first request that appears is granted at once (R127, `State.follows`). -/
def arbiterGrant (s : State) : State :=
  match s.grantClass with
  | none => { s with down := { s.down with accept := true } }
  | some c => State.grant c { s.moveRotation c with down := { (s.moveRotation c).down with accept := false } }

/-! ## Retirement (5.6) -/

/-- A retired entry leaves every read snapshot (R114, R117): upstream reads whose snapshot is now empty join the READ
class in the order they took it (R124), and so does the fetch read the FETCH class (R125). -/
def WaitingRead.without (id : Nat) (w : WaitingRead) : WaitingRead :=
  { w with snapshot := w.snapshot.filter (· != id) }

def Fetch.without (id : Nat) : Fetch → Fetch
  | .waiting line ids => if (ids.filter (· != id)).isEmpty then .ready line else .waiting line (ids.filter (· != id))
  | f => f

def State.leaveSnapshots (id : Nat) (s : State) : State :=
  let ws := s.reads.waiting.map (WaitingRead.without id)
  { s with
    reads := { s.reads with
      waiting := ws.filter (!·.snapshot.isEmpty)
      ready := s.reads.ready ++ (ws.filter (·.snapshot.isEmpty)).map (·.read) }
    down := { s.down with fetch := s.down.fetch.without id } }

/-- A faulted drain is charged (R118): to the tile of its reference (R30), to the Report Writer (R188), or by a
MEMORY_FAULT record. -/
def State.charge (e : Entry) (s : State) : State :=
  match e.tileRef with
  | some t => s.modTile t fun tile => { tile with damaged := true }
  | none =>
    if e.source = .report then { s with report := { s.report with dropped := true } }
    else s.offer (.memoryFault e.line e.source)

/-- The last-carrier reference becomes none when it named the retired entry (R23). -/
def State.dropCarrier (id : Nat) (s : State) : State :=
  if s.merge.lastCarrier = some id then { s with merge := { s.merge with lastCarrier := none } } else s

/-- A retired header line of the current ring advances the drained produce index, and IRQ is set again (R190, R191). -/
def State.headerDrained (e : Entry) (s : State) : State :=
  match e.header with
  | none => s
  | some p => { s with report := { s.report with drained := p } }.setIrq

/-- The fence of a retired entry is delivered (R24, R117). -/
def State.deliverOf (e : Entry) (s : State) : State :=
  match e.fence with
  | none => s
  | some t => s.deliverFence t

/-- The effects of a retirement, the entry having left the queue (R117, R118). -/
def State.retired (st : DownStatus) (e : Entry) (s : State) : State :=
  let s := if st = .fault then s.charge e else s
  (((s.leaveSnapshots e.id).dropCarrier e.id).headerDrained e).deliverOf e

/-- A response to the drain in flight: the head entry retires (R116, R126). With no drain in flight the response matches
nothing and is ignored (R122). -/
def State.drainResponds (st : DownStatus) (s : State) : State :=
  match s.pwq.entries with
  | [] => s
  | e :: rest =>
    if e.state = .draining then State.retired st e { s with pwq := { s.pwq with entries := rest } } else s

/-! ## Responses (6.5) -/

/-- A response to an upstream read (R132): the master is answered as decided, or FAULT, and its flag clears. With no read
of that master outstanding downstream it is ignored (R122). -/
def State.readResponds (m : Master) (st : DownStatus) (data : List Word) (s : State) : State :=
  match s.reads.out.find? (·.master == m) with
  | none => s
  | some r =>
    let s : State := { s with
      reads := { s.reads with out := s.reads.out.filter (·.master != m) }
      port := { s.port with outstanding := s.port.outstanding.set m false } }
    match st with
    | .ok => s.answer m (if r.stale then .stale else .ok) data
    | .fault => s.answer m .fault []

/-- A response goes to the outstanding transaction with its identifier (R122). -/
def State.responds (id : Ident) (st : DownStatus) (data : List Word) (s : State) : State :=
  match id with
  | .master m => s.readResponds m st data
  | .fetch => s.fetchResponds st data
  | .drain => s.drainResponds st

end Sys2Proof.Machine
end

