-- ==== Sys2Proof/Machine/ReportWriter.lean ====
section
/-! DEFINITION. The Report Writer side of tail admission: record lines, header lines and result words enter the PWQ
(10 10.4, 05 R113, 09 R176). -/

namespace Sys2Proof.Machine

/-- The first ready line may enter (R112, R113): need 0, or need covered by the free entries and not kept for the
Upstream Port, which waits while it holds a write. -/
def State.readyMayEnter (s : State) : Bool :=
  s.readyNeed == 0
    || (s.readyNeed ≤ s.pwq.free && !(s.port.held.isSome && s.report.waits && s.port.turn == .upstream))

/-- The row of a ready line's entry (R189, R176). -/
def ReadyLine.entryRow : ReadyLine → Instr
  | .record => .recordLineEntry
  | .header _ _ _ => .headerLineEntry
  | .newHeader _ => .headerLineEntry
  | .result => .resultWordEntry

/-- The entry of the first ready line, when it may enter. -/
def State.lineReady (s : State) : Option Instr :=
  if s.readyMayEnter then s.report.ready.head?.map ReadyLine.entryRow else none

/-- The entry of the first ready line, when the side has waited with its write and it may enter now (R113). -/
def State.waitingLineReady (s : State) : Option Instr :=
  if s.report.waits && s.report.ready.head?.any (fun l => (s.readyWrite l).isSome) then s.lineReady else none

/-- The first ready line leaves the list and its write enters the PWQ; entering while the Upstream Port waits, it passes
the tail turn to it (R113). -/
def State.enterReady (w : QWrite) (s : State) : State :=
  ({ s with
    report := { s.report with ready := s.report.ready.tail, waits := false }
    port := if s.port.held.isSome then { s.port with turn := .upstream } else s.port }).placeOne w

/-- RECORD_LINE_ENTRY: the record line in hand enters at place P (R189): the record leaves the queue, DROPPED clears with
the mark the line carried, P advances, and the header write carrying the new P becomes the line in hand. -/
def recordLineEntry (s : State) : State :=
  match s.report.ready, s.plan.station, s.report.queue with
  | .record :: _, some st, r :: rest =>
    if s.readyMayEnter then
      let p := (s.report.produce + 1) % st.capacity
      let s := s.enterReady (recordWrite st s.report.produce r s.report.dropped)
      { s with report := { s.report with
          queue := rest
          dropped := false
          produce := p
          ready := s.report.ready ++ [.header st.reportBase p true] } }
    else s
  | _, _, _ => s

/-- HEADER_LINE_ENTRY: the header write in hand, or the whole header of a new ring, enters (R189, R193). -/
def headerLineEntry (s : State) : State :=
  match s.report.ready with
  | .header base p live :: _ => if s.readyMayEnter then s.enterReady (headerWrite base p live) else s
  | .newHeader base :: _ => if s.readyMayEnter then s.enterReady (newHeaderWrite base) else s
  | _ => s

/-- The take is over (R176): the slot is idle, the take index is its number + 1 modulo 32, and the search is made. -/
def State.endTake (k : Take) (s : State) : State :=
  ({ s with plan := { s.plan with take := none, takeIndex := k.slot + 1 } }).search

/-- RESULT_WORD_ENTRY: the take's result word enters and the take ends (R176). -/
def resultWordEntry (s : State) : State :=
  match s.report.ready, s.plan.take with
  | .result :: _, some k =>
    match k.step with
    | .finished w =>
      if s.readyMayEnter then (s.enterReady (resultWrite (s.postWord k.slot) w)).endTake k else s
    | _ => s
  | _, _ => s

end Sys2Proof.Machine
end

