-- ==== Sys2Proof/Machine/Reset.lean ====
section
/-! DEFINITION. Power-on reset as a command (R9, R96, R120, R131, R167, R184, R194). -/

namespace Sys2Proof.Machine

/-- Every block returns to its reset state with the levels and straps read at the release of RESETN (R135, R168). What
was already driven out of the part stays on record, and commands that have not arrived yet stay in the queue (log entry
9). -/
def powerOnReset (lines : StageLines) (straps : BitVec 12) (s : State) : State :=
  let z := State.resetWith lines straps
  { z with
    port := { z.port with answers := s.port.answers }
    down := { z.down with issued := s.down.issued }
    clock := { z.clock with draws := s.clock.draws }
    pending := s.pending }

end Sys2Proof.Machine
end

