-- ==== Sys2Proof/Machine/Finish.lean ====
section
/-! DEFINITION. What follows a command's effect within its step: levels are brought up to date, a fetched record is
processed, a waiting DISMISS takes its place, a tile is armed, a standing grant is made, a write that waits at the tail of
the queue enters (log entry 3); a result word that is due is presented last. -/

namespace Sys2Proof.Machine

/-- The row of the record that is fetched and not processed yet (R172). -/
def State.recordStep (s : State) : Option Instr :=
  match s.plan.take with
  | some { step := .fetched, post := some w, .. } =>
    (kindOf w).map fun
      | .station => .station
      | .plate => .plate
      | .retake => .retake
      | .dismiss => .dismiss
  | _ => none

/-- What the rules make happen in the step that made it possible: the fetched record before all else (R172); else the
place of a waiting DISMISS (R182), arming (R53, R64, R141), the grant that an accepting controller waits for (R127), and the
entry of the held write (R101) and of the line that the Report Writer side waits with (R113), each once it may enter. -/
def State.follows (s : State) : List Instr :=
  match s.recordStep with
  | some c => [c]
  | none =>
    (if s.dismissReady.isSome then [Instr.dismissReservation] else [])
      ++ (if s.mayArm && s.candidate.isSome then [Instr.arming] else [])
      ++ (if s.down.accept && s.grantClass.isSome then [Instr.arbiterGrant] else [])
      ++ (if s.heldReady then [Instr.heldWriteEntry] else [])
      ++ s.waitingLineReady.toList

/-- The effect of what follows. -/
def followUp (c : Instr) (s : State) : State :=
  match c with
  | .station => stationRecord s
  | .plate => plateRecord s
  | .retake => retakeRecord s
  | .dismiss => dismissRecord s
  | .dismissReservation => dismissReservation s
  | .arming => arming s
  | .arbiterGrant => arbiterGrant s
  | .heldWriteEntry => heldWriteEntry s
  | .recordLineEntry => recordLineEntry s
  | .headerLineEntry => headerLineEntry s
  | .resultWordEntry => resultWordEntry s
  | _ => s

/-- One thing that follows is taken, of several a free one (log entry 2), and the levels are brought up to date. -/
def State.follow (s : State) : State :=
  match s.follows with
  | [] => s
  | [c] => refresh (followUp c s)
  | cs => refresh (followUp (cs.getD (pick s.clock.draws (cs.length - 1)) .arming) (s.draw 1))

/-- What follows is taken up to n times. -/
def settle : Nat → State → State
  | 0, s => s
  | n + 1, s =>
    match s.follows with
    | [] => s
    | _ => settle n s.follow

/-- More than can follow one effect. Every thing that follows lowers this sum, which is 15 at most: 6 for a fetched record,
4 for a DISMISS that waits for its place, 4 for a held write, 2 for an IDLE sequencer, 2 for an accepting controller, 1 for a
line of the Report Writer side that has waited and may enter. -/
def mostFollows : Nat := 16

/-- A command's effect with all that follows in its step, and the end of the step. -/
def finish (s : State) : State := conclude (settle mostFollows (refresh s))

/-- The outcome of a command whose effect is `f`: the next state, with all that follows in the step. -/
def done (f : State → State) (s : State) : Host.Outcome State Fault Refusal := .next (finish (f s))

end Sys2Proof.Machine
end

