-- ==== Sys2Proof/Machine/Commands.lean ====
section
/-! DEFINITION. The meaning of each row: its effect, and what follows in the same step (`done`). -/

namespace Sys2Proof.Machine

/-! ## Upstream Port (05) -/

/-- UPSTREAM_REQUEST_FAULT (R98). -/
def execUpstreamRequestFault (r : Request) (s : State) : Host.Outcome State Fault Refusal :=
  done (match r with
    | .read r => State.presentRead r
    | .write w => State.presentWrite w) s

/-- POST (R170): the write is presented to the port, which classes it by its address, beats and value (log entry 5). -/
def execPost (w : WriteReq) (s : State) : Host.Outcome State Fault Refusal := done (State.presentWrite w) s

/-- WITHDRAWAL (R170). -/
def execWithdrawal (w : WriteReq) (s : State) : Host.Outcome State Fault Refusal := done (State.presentWrite w) s

/-- CONSUME (R192). -/
def execConsume (w : WriteReq) (s : State) : Host.Outcome State Fault Refusal := done (State.presentWrite w) s

/-- CAPTURE (R11). -/
def execCapture (w : WriteReq) (s : State) : Host.Outcome State Fault Refusal := done (State.presentWrite w) s

/-- HELD_WRITE (R92). -/
def execHeldWrite (w : WriteReq) (s : State) : Host.Outcome State Fault Refusal := done (State.presentWrite w) s

/-- HELD_READ (R83). -/
def execHeldRead (r : ReadReq) (s : State) : Host.Outcome State Fault Refusal := done (State.presentRead r) s

/-- PLAIN_WRITE (R106). -/
def execPlainWrite (w : WriteReq) (s : State) : Host.Outcome State Fault Refusal := done (State.presentWrite w) s

/-- PLAIN_READ (R106). -/
def execPlainRead (r : ReadReq) (s : State) : Host.Outcome State Fault Refusal := done (State.presentRead r) s

/-- HELD_WRITE_ENTRY (R101). -/
def execHeldWriteEntry (s : State) : Host.Outcome State Fault Refusal := done heldWriteEntry s

/-! ## Downstream Port (06) -/

/-- ARBITER_GRANT (R127). -/
def execArbiterGrant (s : State) : Host.Outcome State Fault Refusal := done arbiterGrant s

/-- DRAIN_RETIRE_OK (R117). -/
def execDrainRetireOk (s : State) : Host.Outcome State Fault Refusal := done (State.drainResponds .ok) s

/-- DRAIN_RETIRE_FAULT (R118). -/
def execDrainRetireFault (s : State) : Host.Outcome State Fault Refusal := done (State.drainResponds .fault) s

/-- UPSTREAM_READ_RESPONSE (R132). -/
def execUpstreamReadResponse (m : Master) (st : DownStatus) (data : List Word) (s : State) :
    Host.Outcome State Fault Refusal := done (State.readResponds m st data) s

/-- UNMATCHED_RESPONSE (R122): the port matches the response by its identifier (log entry 5), and ignores it when nothing
with that identifier is outstanding. -/
def execUnmatchedResponse (id : Ident) (st : DownStatus) (data : List Word) (s : State) :
    Host.Outcome State Fault Refusal := done (State.responds id st data) s

/-! ## Plan Reader (09) -/

/-- FETCH_RESPONSE (R133). -/
def execFetchResponse (st : DownStatus) (data : List Word) (s : State) : Host.Outcome State Fault Refusal :=
  done (State.fetchResponds st data) s

/-- STATION (R177). -/
def execStation (s : State) : Host.Outcome State Fault Refusal := done stationRecord s

/-- PLATE (R179). -/
def execPlate (s : State) : Host.Outcome State Fault Refusal := done plateRecord s

/-- RETAKE (R181). -/
def execRetake (s : State) : Host.Outcome State Fault Refusal := done retakeRecord s

/-- DISMISS (R182). -/
def execDismiss (s : State) : Host.Outcome State Fault Refusal := done dismissRecord s

/-- DISMISS_RESERVATION (R183). -/
def execDismissReservation (s : State) : Host.Outcome State Fault Refusal := done dismissReservation s

/-! ## Report Writer side (10, 09) -/

/-- RECORD_LINE_ENTRY (R189). -/
def execRecordLineEntry (s : State) : Host.Outcome State Fault Refusal := done recordLineEntry s

/-- HEADER_LINE_ENTRY (R189). -/
def execHeaderLineEntry (s : State) : Host.Outcome State Fault Refusal := done headerLineEntry s

/-- RESULT_WORD_ENTRY (R176). -/
def execResultWordEntry (s : State) : Host.Outcome State Fault Refusal := done resultWordEntry s

/-! ## Hold Unit (04) -/

/-- HOLD_TIMER_EXPIRY (R87). -/
def execHoldTimerExpiry (m : Master) (s : State) : Host.Outcome State Fault Refusal := done (holdTimerExpiry m) s

/-! ## Bracket Sequencer (03) -/

/-- SETTLE_EXPIRY (R60). -/
def execSettleExpiry (s : State) : Host.Outcome State Fault Refusal := done settleExpiry s

/-- TRIGGER_PULSE_END (R61). -/
def execTriggerPulseEnd (s : State) : Host.Outcome State Fault Refusal := done triggerPulseEnd s

/-- DEFERRED_TRIGGER (R61). -/
def execDeferredTrigger (s : State) : Host.Outcome State Fault Refusal := done deferredTrigger s

/-- EXPOSURE_TIMER_EXPIRY (R69). -/
def execExposureTimerExpiry (s : State) : Host.Outcome State Fault Refusal := done exposureTimerExpiry s

/-! ## Lamp Drive and arming (08, 03) -/

/-- PERIOD_END (R148). -/
def execPeriodEnd (s : State) : Host.Outcome State Fault Refusal := done periodEnd s

/-- IDLE_TIMER_EXPIRY (R151). -/
def execIdleTimerExpiry (s : State) : Host.Outcome State Fault Refusal := done idleTimerExpiry s

/-- HEAT_TICK (R158). -/
def execHeatTick (s : State) : Host.Outcome State Fault Refusal := done heatTick s

/-- CUT_RISE (R161). -/
def execCutRise (s : State) : Host.Outcome State Fault Refusal := done cutRise s

/-- CUT_FALL (R163). -/
def execCutFall (s : State) : Host.Outcome State Fault Refusal := done cutFall s

/-- ARMING (R55). -/
def execArming (s : State) : Host.Outcome State Fault Refusal := done arming s

/-! ## Stage Position Unit (07) -/

/-- VALID_TRANSITION (R136). -/
def execValidTransition (ax : Axis) (line : EncLine) (s : State) : Host.Outcome State Fault Refusal :=
  done (validTransition ax line) s

/-- INVALID_TRANSITION (R137). -/
def execInvalidTransition (ax : Axis) (s : State) : Host.Outcome State Fault Refusal := done (invalidTransition ax) s

/-- HOME_EDGE (R139). -/
def execHomeEdge (ax : Axis) (s : State) : Host.Outcome State Fault Refusal := done (homeEdge ax) s

/-- FALLING_HOME_EDGE (R139). -/
def execFallingHomeEdge (ax : Axis) (s : State) : Host.Outcome State Fault Refusal := done (fallingHomeEdge ax) s

/-- DWELL_EXPIRY (R141). -/
def execDwellExpiry (s : State) : Host.Outcome State Fault Refusal := done dwellExpiry s

/-! ## Reset -/

/-- POWER_ON_RESET (R120). -/
def execPowerOnReset (lines : StageLines) (straps : BitVec 12) (s : State) : Host.Outcome State Fault Refusal :=
  done (powerOnReset lines straps) s

end Sys2Proof.Machine
end

