-- ==== Sys2Proof/Machine/Dispatch.lean ====
section
/-! DEFINITION. One arm per command, each a direct call of its meaning. -/

namespace Sys2Proof.Machine

def exec (i : Instr) (s : State) : Host.Outcome State Fault Refusal :=
  match i with
  | .powerOnReset lines straps => Sys2Proof.Machine.execPowerOnReset lines straps s
  | .upstreamRequestFault r => Sys2Proof.Machine.execUpstreamRequestFault r s
  | .post w => Sys2Proof.Machine.execPost w s
  | .withdrawal w => Sys2Proof.Machine.execWithdrawal w s
  | .consume w => Sys2Proof.Machine.execConsume w s
  | .capture w => Sys2Proof.Machine.execCapture w s
  | .heldWrite w => Sys2Proof.Machine.execHeldWrite w s
  | .heldRead r => Sys2Proof.Machine.execHeldRead r s
  | .plainWrite w => Sys2Proof.Machine.execPlainWrite w s
  | .plainRead r => Sys2Proof.Machine.execPlainRead r s
  | .heldWriteEntry => Sys2Proof.Machine.execHeldWriteEntry s
  | .arbiterGrant => Sys2Proof.Machine.execArbiterGrant s
  | .drainRetireOk => Sys2Proof.Machine.execDrainRetireOk s
  | .drainRetireFault => Sys2Proof.Machine.execDrainRetireFault s
  | .upstreamReadResponse m st data => Sys2Proof.Machine.execUpstreamReadResponse m st data s
  | .fetchResponse st data => Sys2Proof.Machine.execFetchResponse st data s
  | .unmatchedResponse id st data => Sys2Proof.Machine.execUnmatchedResponse id st data s
  | .station => Sys2Proof.Machine.execStation s
  | .plate => Sys2Proof.Machine.execPlate s
  | .retake => Sys2Proof.Machine.execRetake s
  | .dismiss => Sys2Proof.Machine.execDismiss s
  | .dismissReservation => Sys2Proof.Machine.execDismissReservation s
  | .resultWordEntry => Sys2Proof.Machine.execResultWordEntry s
  | .recordLineEntry => Sys2Proof.Machine.execRecordLineEntry s
  | .headerLineEntry => Sys2Proof.Machine.execHeaderLineEntry s
  | .arming => Sys2Proof.Machine.execArming s
  | .periodEnd => Sys2Proof.Machine.execPeriodEnd s
  | .settleExpiry => Sys2Proof.Machine.execSettleExpiry s
  | .triggerPulseEnd => Sys2Proof.Machine.execTriggerPulseEnd s
  | .deferredTrigger => Sys2Proof.Machine.execDeferredTrigger s
  | .exposureTimerExpiry => Sys2Proof.Machine.execExposureTimerExpiry s
  | .holdTimerExpiry m => Sys2Proof.Machine.execHoldTimerExpiry m s
  | .validTransition ax line => Sys2Proof.Machine.execValidTransition ax line s
  | .invalidTransition ax => Sys2Proof.Machine.execInvalidTransition ax s
  | .homeEdge ax => Sys2Proof.Machine.execHomeEdge ax s
  | .dwellExpiry => Sys2Proof.Machine.execDwellExpiry s
  | .cutRise => Sys2Proof.Machine.execCutRise s
  | .cutFall => Sys2Proof.Machine.execCutFall s
  | .idleTimerExpiry => Sys2Proof.Machine.execIdleTimerExpiry s
  | .heatTick => Sys2Proof.Machine.execHeatTick s
  | .fallingHomeEdge ax => Sys2Proof.Machine.execFallingHomeEdge ax s

end Sys2Proof.Machine
end

