-- ==== Sys2Proof/Machine/Idle.lean ====
section
/-! DEFINITION. What the part does while no command waits (log entries 1 to 3): its own step when that is possible, else
one CLK cycle with its samples, ticks, filters and expiries. -/

namespace Sys2Proof.Machine

/-! ## The part's own step -/

/-- The part's own step that is possible now: the entry of the first ready line (R113, R176, R189). A write that waits has
entered in the step in which it could (`State.follows`). -/
def State.ownStep (s : State) : Option Instr := s.lineReady

/-! ## One CLK cycle (0.6, 7.2, R178) -/

/-- A filter samples its raw input (R134). -/
def Filter.sample (f : Filter) (raw : Bool) : Filter :=
  { f with raw := raw, run := if raw = f.level then 0 else f.run + 1 }

/-- The levels at which the raw inputs stand in this CLK cycle: free values (log entry 14). -/
def State.rawLines (s : State) : StageLines :=
  let l := Config.rawLevel s.clock.draws
  { xa := l 0, xb := l 1, ya := l 2, yb := l 3, homeX := l 4, homeY := l 5, cut := l 6 }

/-- Every filter samples its raw input. -/
def Stage.sample (g : Stage) (l : StageLines) : Stage :=
  { g with
    xa := g.xa.sample l.xa, xb := g.xb.sample l.xb, ya := g.ya.sample l.ya, yb := g.yb.sample l.yb
    homeX := g.homeX.sample l.homeX, homeY := g.homeY.sample l.homeY, cut := g.cut.sample l.cut }

/-- A 1 µs tick: every timer that counts it and runs rises by 1. The exposure timer keeps its value while the capture
master is held (R62). -/
def State.usTick (s : State) : State :=
  { s with
    seq := { s.seq with
      settleTimer := s.seq.settleTimer.map Timer.tick
      pulseTimer := s.seq.pulseTimer.map Timer.tick
      expTimer := if s.seq.captureHeld then s.seq.expTimer else s.seq.expTimer.map Timer.tick }
    stage := { s.stage with dwell := s.stage.dwell.map (· + 1) }
    hold := { s.hold with queue := s.hold.queue.map fun r => { r with timer := r.timer.tick } } }

/-- A lamp tick: the period counter counts while the lamp is ON (R148). -/
def State.lampTick (s : State) : State :=
  if s.lamp.on then { s with lamp := { s.lamp with counter := s.lamp.counter + 1 } } else s

/-- Which ticks fall in a CLK cycle. -/
structure Ticks where
  us : Bool
  ms : Bool
  lamp : Bool
  deriving DecidableEq, Repr

/-- The ticks of the next CLK cycle (0.6, R178): none while UNCONFIGURED. -/
def State.ticks (s : State) : Ticks :=
  match s.plan.station with
  | none => { us := false, ms := false, lamp := false }
  | some st =>
    let us := decide (st.divisor ≤ s.clock.us + 1)
    { us := us, ms := us && decide (1000 ≤ s.clock.ms + 1), lamp := decide (st.prescale ≤ s.clock.lampDiv + 1) }

/-- The dividers count a CLK cycle. -/
def State.countClk (k : Ticks) (s : State) : State :=
  if s.configured then
    { s with clock := { s.clock with
        us := if k.us then 0 else s.clock.us + 1
        ms := if k.ms then 0 else if k.us then s.clock.ms + 1 else s.clock.ms
        lampDiv := if k.lamp then 0 else s.clock.lampDiv + 1 } }
  else s

/-- Everything counts that a CLK cycle makes count. -/
def State.advance (k : Ticks) (s : State) : State :=
  let s : State := { s.countClk k with stage := s.stage.sample s.rawLines }.draw 1
  let s := if k.us then s.usTick else s
  let s := if k.ms then s.msTick else s
  if k.lamp then s.lampTick else s

/-- The expiries of a 1 µs tick that are due (R59, R61, R62, R85, R141). -/
def State.usDue (s : State) : List Instr :=
  (if s.stage.dwell.any fun v => s.setting (·.dwell) ≤ v then [Instr.dwellExpiry] else [])
    ++ (if s.seq.settleTimer.any Timer.reached then [Instr.settleExpiry] else [])
    ++ (if s.seq.pulseTimer.any Timer.reached then [Instr.triggerPulseEnd] else [])
    ++ (if s.seq.deferred && !s.seq.trig then [Instr.deferredTrigger] else [])
    ++ (if s.seq.expTimer.any Timer.reached then [Instr.exposureTimerExpiry] else [])
    ++ (s.hold.queue.filter fun r => r.timer.reached).map fun r => Instr.holdTimerExpiry r.master

/-- Everything that is due after a CLK cycle has counted. -/
def State.due (k : Ticks) (s : State) : List Instr :=
  s.stage.dueEvents s.filterDepth
    ++ (if k.us then s.usDue else [])
    ++ (if k.ms then (if s.idleDue then [Instr.idleTimerExpiry] else []) ++ [Instr.heatTick] else [])
    ++ (if k.lamp && s.lamp.on && s.lamp.period ≤ s.lamp.counter then [Instr.periodEnd] else [])

/-- The effect of an event of the clock. Of a 1 ms tick the heat model's part alone: `State.advance` has counted it for the
idle timer, whose expiry is an event of its own. -/
def clockEvent (c : Instr) (s : State) : State :=
  match c with
  | .dwellExpiry => dwellExpiry s
  | .settleExpiry => settleExpiry s
  | .triggerPulseEnd => triggerPulseEnd s
  | .deferredTrigger => deferredTrigger s
  | .exposureTimerExpiry => exposureTimerExpiry s
  | .holdTimerExpiry m => holdTimerExpiry m s
  | .idleTimerExpiry => idleTimerExpiry s
  | .heatTick => heatStep s
  | .periodEnd => periodEnd s
  | c => lineEvent c s

/-- An event of the cycle is taken in its turn, if it is due still, with what follows in its step. -/
def State.takeDue (k : Ticks) (s : State) (c : Instr) : State :=
  if (s.due k).contains c then finish (clockEvent c s) else s

/-- One CLK cycle: counting, then the events that are due, in a free order (log entry 2). -/
def clkCycle (s : State) : State :=
  let k := s.ticks
  let s := s.advance k
  let evs := s.due k
  finish ((freeOrder s.clock.draws evs).foldl (State.takeDue k) (s.draw evs.length))

/-! ## The idle step -/

/-- The step of the part while no command waits: its own step if that is possible, else one CLK cycle (log entry 1). -/
def idle (s : State) : Host.Outcome State Fault Refusal :=
  match s.ownStep with
  | none => .next (clkCycle s)
  | some c => exec c s

end Sys2Proof.Machine
end

