-- ==== Sys2Proof/Safety.lean ====
section
/-! DEFINITION. The laws of the part that its statements are about, and the effect of a command as a function. -/

namespace Sys2Proof.Machine

/-! ## The effect of a command -/

/-- The effect of each command before what follows in its step: what its meaning hands to `done`. -/
def effect (c : Instr) (s : State) : State :=
  match c with
  | .powerOnReset lines straps => powerOnReset lines straps s
  | .upstreamRequestFault (.read r) => s.presentRead r
  | .upstreamRequestFault (.write w) => s.presentWrite w
  | .post w => s.presentWrite w
  | .withdrawal w => s.presentWrite w
  | .consume w => s.presentWrite w
  | .capture w => s.presentWrite w
  | .heldWrite w => s.presentWrite w
  | .heldRead r => s.presentRead r
  | .plainWrite w => s.presentWrite w
  | .plainRead r => s.presentRead r
  | .heldWriteEntry => heldWriteEntry s
  | .arbiterGrant => arbiterGrant s
  | .drainRetireOk => s.drainResponds .ok
  | .drainRetireFault => s.drainResponds .fault
  | .upstreamReadResponse m st data => s.readResponds m st data
  | .fetchResponse st data => s.fetchResponds st data
  | .unmatchedResponse id st data => s.responds id st data
  | .station => stationRecord s
  | .plate => plateRecord s
  | .retake => retakeRecord s
  | .dismiss => dismissRecord s
  | .dismissReservation => dismissReservation s
  | .resultWordEntry => resultWordEntry s
  | .recordLineEntry => recordLineEntry s
  | .headerLineEntry => headerLineEntry s
  | .arming => arming s
  | .periodEnd => periodEnd s
  | .settleExpiry => settleExpiry s
  | .triggerPulseEnd => triggerPulseEnd s
  | .deferredTrigger => deferredTrigger s
  | .exposureTimerExpiry => exposureTimerExpiry s
  | .holdTimerExpiry m => holdTimerExpiry m s
  | .validTransition ax line => validTransition ax line s
  | .invalidTransition ax => invalidTransition ax s
  | .homeEdge ax => homeEdge ax s
  | .dwellExpiry => dwellExpiry s
  | .cutRise => cutRise s
  | .cutFall => cutFall s
  | .idleTimerExpiry => idleTimerExpiry s
  | .heatTick => heatTick s
  | .fallingHomeEdge ax => fallingHomeEdge ax s

/-! ## Lamp levels (8.2, 8.4, 8.7) -/

/-- The tile asks for its exposure's duty by line 2 of Table 8-2 (R152). -/
def State.Asks (s : State) (tile : Tile) : Prop :=
  tile.state = .settling ∨ tile.state = .exposing ∨ (tile.state = .armed ∧ s.lamp.zone = .cool)

/-- No tile of the sequencer asks by line 2. -/
def State.NoneAsks (s : State) : Prop :=
  ∀ t tile plate, s.seq.current = some t → s.asm.tiles[t] = some tile → s.asm.plates[tile.slot] = some plate →
    ¬s.Asks tile

/-- A duty, and whether it came from line 2, are what the first line of Table 8-2 that applies gives (R152). -/
structure RequestLines (s : State) (duty : Nat) (fromTile : Bool) : Prop where
  line1 : s.stage.cut.level = true → duty = 0 ∧ fromTile = false
  line2 : s.stage.cut.level = false → ∀ t tile plate x, s.seq.current = some t → s.asm.tiles[t] = some tile →
    s.asm.plates[tile.slot] = some plate → s.Asks tile → plate.bracket[tile.expIndex]? = some x →
    duty = x.duty ∧ fromTile = true
  line3 : s.stage.cut.level = false → s.NoneAsks → s.lamp.on = true → ∀ st, s.plan.station = some st →
    duty = st.idleDuty ∧ fromTile = false
  line4 : s.stage.cut.level = false → s.NoneAsks → s.lamp.on = false → duty = 0 ∧ fromTile = false

/-- The requested duty and its source stand as Table 8-2 gives them (R152), LAMP as R162 gives it, and the period counter
of a lamp that is OFF stands at 0 (R148). -/
structure LampLaw (s : State) : Prop where
  request : RequestLines s s.lamp.requested s.lamp.fromTile
  out : s.lamp.out = true ↔
    s.lamp.on = true ∧ s.stage.cut.level = false ∧ s.lamp.counter < min s.lamp.applied s.lamp.period
  stopped : s.lamp.on = false → s.lamp.counter = 0

/-! ## Posted Write Queue (5.4) -/

/-- R110: at most 16 entries, in creation order by their ordinals, at most one WAITING entry for a line; only the head may
be DRAINING (R116), and every entry has a byte enabled (Table 5-5). -/
structure PwqLaw (s : State) : Prop where
  places : s.pwq.entries.length ≤ 16
  order : s.pwq.entries.Pairwise fun a b => a.id < b.id
  fresh : ∀ e ∈ s.pwq.entries, e.id < s.pwq.nextId
  waiting : s.pwq.entries.Pairwise fun a b => ¬(a.state = .waiting ∧ b.state = .waiting ∧ a.line = b.line)
  head : ∀ e ∈ s.pwq.entries.tail, e.state = .waiting
  bytes : ∀ e ∈ s.pwq.entries, anyByte e.bytes = true

/-! ## Reads of the masters (5.2, 4.4) -/

/-- The masters whose reads are on their way, by where the reads stand. -/
def State.readMasters (s : State) : List Master :=
  s.hold.queue.map (·.master) ++ s.reads.waiting.map (·.read.master) ++ s.reads.ready.map (·.master)
    ++ s.reads.out.map (·.master)

/-- A master has at most one read on its way, and its flag is set exactly while it has one (R99); every place of the
Held-Read Queue names a HELD hold (R86); a read waits for a snapshot that is not empty (R114). -/
structure ReadsLaw (s : State) : Prop where
  single : s.readMasters.Nodup
  flags : ∀ m : Master, s.port.outstanding[m] = true ↔ m ∈ s.readMasters
  held : ∀ r ∈ s.hold.queue, s.hold.pool[r.hold].isSome = true
  waits : ∀ w ∈ s.reads.waiting, w.snapshot ≠ []

/-! ## Plates, tiles and the exposure path (2.2, 2.3, 3.1) -/

/-- Tiles of a list that are DONE, and that are FAILED. -/
def State.countDone (s : State) (ts : List TileNo) : Nat := (ts.filter (s.tileIs (·.state == .done))).length
def State.countFailed (s : State) (ts : List TileNo) : Nat :=
  (ts.filter (s.tileIs fun x => x.final && !(x.state == .done))).length

/-- What the Plate Table, the Tile Table and the Bracket Sequencer keep between them: R27 (each entry belongs to one plate,
at its place in the tile list), the counts of Table 2-1, Table 2-2's meaning of ASSEMBLING and COMPLETE, R51 (the current
tile is the one tile that is ARMED, SETTLING or EXPOSING, and MOVEOK is high exactly when none is), R143 (a watched target
exactly while BUSY), R50 (an IDLE sequencer's timers are stopped, the frame CLOSED), R61 (TRIG is high while its pulse
runs), R172 (a take that is past FETCHING has no line read), and R182 (a waiting DISMISS names an ASSEMBLING or COMPLETE
plate). -/
structure AssemblyLaw (s : State) : Prop where
  listed : ∀ (p : SlotNo) plate, s.asm.plates[p] = some plate → ∀ (i : Nat) (t : TileNo), plate.tiles[i]? = some t →
    ∃ tile, s.asm.tiles[t] = some tile ∧ tile.slot = p ∧ tile.index = i
      ∧ tile.row = i / plate.geo.cols ∧ tile.col = i % plate.geo.cols
  owned : ∀ (t : TileNo) tile, s.asm.tiles[t] = some tile →
    ∃ plate, s.asm.plates[tile.slot] = some plate ∧ plate.tiles[tile.index]? = some t
  sized : ∀ (p : SlotNo) plate, s.asm.plates[p] = some plate →
    plate.tiles.length = plate.geo.tiles ∧ 0 < plate.geo.cols
  counts : ∀ (p : SlotNo) plate, s.asm.plates[p] = some plate →
    plate.tilesDone = s.countDone plate.tiles ∧ plate.tilesFailed = s.countFailed plate.tiles
  assembling : ∀ (p : SlotNo) plate, s.asm.plates[p] = some plate → plate.state = .assembling →
    plate.tilesDone + plate.tilesFailed < plate.geo.tiles
  complete : ∀ (p : SlotNo) plate, s.asm.plates[p] = some plate → plate.state = .complete →
    plate.tilesDone + plate.tilesFailed = plate.geo.tiles
  active : ∀ t : TileNo, s.tileIs Tile.active t = true ↔ s.seq.current = some t
  busy : ∀ (t : TileNo) tile plate, s.asm.tiles[t] = some tile → tile.active = true →
    s.asm.plates[tile.slot] = some plate → plate.state = .assembling
  moveok : s.seq.moveok = true ↔ s.seq.current = none
  watched : s.stage.watched.isSome = s.seq.current.isSome
  idle : s.seq.current = none →
    s.seq.settleTimer = none ∧ s.seq.deferred = false ∧ s.seq.expTimer = none ∧ s.merge.frame = .closed
      ∧ s.merge.lastCarrier = none
  trig : s.seq.trig = s.seq.pulseTimer.isSome
  fetches : ∀ k, s.plan.take = some k → k.step ≠ .fetching → s.down.fetch = .idle
  waiting : ∀ k, s.plan.take = some k → k.step = .waitingReservation →
    ∃ p plate, slotField k.body = some p ∧ s.asm.plates[p] = some plate
      ∧ (plate.state = .assembling ∨ plate.state = .complete)

/-! ## Holds (4.3) -/

/-- R82: every unfinished band of an ASSEMBLING or COMPLETE plate has one HELD hold, which closes its range under the
plate's policy; no other hold is HELD; a DISMISSING plate has none. -/
structure HoldLaw (s : State) : Prop where
  lists : ∀ (p : SlotNo) plate, s.asm.plates[p] = some plate → plate.bandHolds.length = plate.geo.rows
  held : ∀ (p : SlotNo) plate, s.asm.plates[p] = some plate → ∀ (b : Nat) (h : HoldNo),
    plate.bandHold b = some h → s.hold.pool[h] = some (holdFor p plate b)
  named : ∀ (h : HoldNo), s.hold.pool[h].isSome = true →
    ∃ (p : SlotNo) (plate : Plate) (b : Nat), s.asm.plates[p] = some plate ∧ plate.bandHold b = some h
  single : ∀ (p p' : SlotNo) plate plate' (b b' : Nat) (h : HoldNo), s.asm.plates[p] = some plate →
    s.asm.plates[p'] = some plate' → plate.bandHold b = some h → plate'.bandHold b' = some h → p = p' ∧ b = b'
  unfinished : ∀ (p : SlotNo) plate, s.asm.plates[p] = some plate → ∀ b < plate.geo.rows,
    plate.state = .assembling ∨ plate.state = .complete →
      ((plate.bandHold b).isSome = true ↔ ∃ t ∈ plate.rowTiles b, s.tileIs Tile.final t = false)
  dismissing : ∀ (p : SlotNo) plate done failed, s.asm.plates[p] = some plate →
    plate.state = .dismissing done failed → ∀ b, plate.bandHold b = none

/-! ## Report Queue places (2.8, 10.3) -/

/-- The reservation a tile holds by its state (R39, R40). -/
def TileState.reservation : TileState → Nat
  | .armed => 2
  | .settling => 2
  | .exposing => 2
  | .closing .discarded _ => 0
  | .closing _ _ => 2
  | _ => 0

/-- Places that tiles and plates hold together. -/
def State.heldPlaces (s : State) : Nat :=
  (s.asm.tiles.toList.map fun x => (x.map (·.reservation)).getD 0).sum
    + (s.asm.plates.toList.map fun x => (x.map (·.dismissReserved.toNat)).getD 0).sum

/-- R187 and R189: the reserved count is what tiles and plates hold, a tile holds what its state gives it, a plate holds
one place exactly while DISMISSING (R41), and occupied plus reserved places never exceed 16. -/
structure ReservationLaw (s : State) : Prop where
  total : s.report.reserved = s.heldPlaces
  tile : ∀ (t : TileNo) tile, s.asm.tiles[t] = some tile → tile.reservation = tile.state.reservation
  plate : ∀ (p : SlotNo) plate, s.asm.plates[p] = some plate →
    (plate.dismissReserved = true ↔ ∃ done failed, plate.state = .dismissing done failed)
  places : s.report.used ≤ 16

/-! ## Report ring and interrupt (10.1, 10.5) -/

/-- How far an index lies forward from C around the ring of N places (R186). -/
def State.forwardFromC (s : State) (n x : Nat) : Nat := (x + n - s.report.consume) % n

/-- The produce indices that the headers of the current ring in the PWQ carry, in queue order (R190). -/
def State.headersInQueue (s : State) : List Nat := s.pwq.entries.filterMap (·.header)

/-- The report ring. R191: IRQ is high exactly while the drained produce index differs from C. Table 10-2: the indices lie
below N. R186: forward from C come the drained produce index, the produce indices on their way through the PWQ in queue
order, and P. R189: one line in hand at most; a record line in hand has its record in the queue and a place that is not
C's, a header in hand carries P. R193: a new header line stands before the result word of the take that brought it, with the
indices 0 until it enters; that it stands before every record line of its ring is the model's choice (log entry 27). While
UNCONFIGURED the part has no ring: only a result word
is ready (R188). -/
structure RingLaw (s : State) : Prop where
  irq : s.report.irq = true ↔ s.report.drained ≠ s.report.consume
  absent : s.plan.station = none → ∀ l ∈ s.report.ready, l = .result
  indices : ∀ st, s.plan.station = some st →
    s.report.produce < st.capacity ∧ s.report.drained < st.capacity ∧ s.report.consume < st.capacity
  order : ∀ st, s.plan.station = some st →
    ((s.report.drained :: s.headersInQueue ++ [s.report.produce]).map (s.forwardFromC st.capacity)).Pairwise (· ≤ ·)
  carried : ∀ st, s.plan.station = some st → ∀ e ∈ s.pwq.entries, ∀ p, e.header = some p →
    p < st.capacity ∧ e.line = st.reportBase
  single : (s.report.ready.filter (·.inHand)).length ≤ 1
  record : ∀ st, s.plan.station = some st → ReadyLine.record ∈ s.report.ready →
    s.report.queue ≠ [] ∧ (s.report.produce + 1) % st.capacity ≠ s.report.consume
  written : ∀ st, s.plan.station = some st → ∀ base p, ReadyLine.header base p true ∈ s.report.ready →
    base = st.reportBase ∧ p = s.report.produce
  newRing : ∀ st, s.plan.station = some st → ∀ base before behind, s.report.ready = before ++ .newHeader base :: behind →
    base = st.reportBase ∧ s.report.produce = 0 ∧ s.report.drained = 0 ∧ s.report.consume = 0 ∧ s.resultDue = true
      ∧ ReadyLine.record ∉ before ∧ ReadyLine.result ∉ before
  result : ReadyLine.result ∈ s.report.ready → s.resultDue = true ∧ s.report.ready.count .result = 1

/-! ## States that statements are about -/

/-- An upstream answer joins the record of answers (R97). -/
def State.answered (s : State) (m : Master) (st : Status) (data : List Word) : List Answer :=
  s.port.answers ++ [{ master := m, status := st, data := data }]

/-- The request is answered and nothing else happens. -/
def State.answeredOnly (s : State) (m : Master) (st : Status) (data : List Word) : State :=
  { s with port := { s.port with answers := s.answered m st data } }

/-- A posted write of a master has entered: placed, answered OK, and with the Report Writer side waiting the tail turn
passed to it (R100, R113). -/
def State.posted (s : State) (q : QWrite) (m : Master) : State :=
  { s with
    pwq := s.pwq.place q
    port := { s.port with
      turn := if s.report.waits = true then .report else s.port.turn
      answers := s.answered m .ok [] } }

/-- A decoded write has become the held write, and the sequencer was told when it is the capture master's (R101, R102). -/
def State.withHeld (s : State) (c : WriteClass) (w : WriteReq) : State :=
  { s with
    port := { s.port with held := some { req := w, cls := c } }
    seq := { s.seq with
      captureHeld := if s.plan.station.any (·.captureMaster == w.master) then true else s.seq.captureHeld } }

/-- The PWQ has room for one write: it merges, or an entry is free (R110). -/
def State.Room (s : State) (q : QWrite) : Prop := s.pwq.hasWaiting q.line = true ∨ s.pwq.entries.length < 16

/-- What becomes of a PLAIN, POST or CONSUME write at its decode (R100, R101): with no enable set it is answered OK and
nothing enters; with room its one queue write enters; else it is held. -/
def State.postedOrHeld (s : State) (c : WriteClass) (w : WriteReq) : State :=
  match lineWrite (writeWords w) .upstream none with
  | none => s.answeredOnly w.master .ok []
  | some q =>
    if s.pwq.hasWaiting q.line = true ∨ s.pwq.entries.length < 16 then s.posted q w.master else s.withHeld c w

/-- The port takes a write of this master now: the master has no read outstanding, the request lies in one line, and no
write is held (R98, R99, R101). -/
structure State.Takes (s : State) (w : WriteReq) : Prop where
  flag : s.port.outstanding[w.master] = false
  fits : fitsLine w.addr w.beats.length = true
  free : s.port.held = none

/-- The port takes a read of this master now (R98, R99, R101). -/
structure State.TakesRead (s : State) (r : ReadReq) : Prop where
  flag : s.port.outstanding[r.master] = false
  free : s.port.held.any (·.req.master == r.master) = false
  fits : fitsLine r.addr r.beats = true

/-- A line read of a plan slot as it stands when it is presented: eligible, or waiting for the entries of its line
(R114, R125, R168). -/
def State.presented (s : State) (k : PlanSlot) (line : Fin 8) : Fetch :=
  match (s.pwq.entries.filter (·.line == s.straps.toNat * 1048576 + k.val * 256 + 32 * line.val)).map (·.id) with
  | [] => .ready line
  | ids => .waiting line ids

/-- A take of a slot has started (R171, R172); with the slot's post write held, line 7 is not presented yet (R173). -/
def State.takeStarted (s : State) (k : PlanSlot) : State :=
  { s with
    plan := { s.plan with
      posted := s.plan.posted.set k false, takeIndex := k
      take := some { slot := k, step := .fetching, post := none, body := [] } }
    down := { s.down with fetch := if s.postHeld k then .deferred else s.presented k 7 } }

/-- The posted slot found first in ring order from the take index (R171). -/
def Plan.FirstPosted (p : Plan) (k : PlanSlot) : Prop :=
  ∃ i < 32, k = p.takeIndex + Fin.ofNat 32 i ∧ p.posted[k] = true
    ∧ ∀ j < i, p.posted[p.takeIndex + Fin.ofNat 32 j] = false

/-- The take has ended with a result word, which waits to enter the PWQ (R174, R176). -/
def State.withResult (s : State) (k : Take) (result : Word) : State :=
  { s with
    plan := { s.plan with take := some { k with step := .finished result } }
    down := { s.down with fetch := .idle } }

/-- A write of the Report Writer side may enter (R112, R113): it merges, or an entry is free and not kept for a held write
of the Upstream Port while this side waits too. -/
def State.MayEnter (s : State) (q : QWrite) : Prop :=
  s.pwq.hasWaiting q.line = true
    ∨ (s.pwq.entries.length < 16
      ∧ ¬(s.port.held.isSome = true ∧ s.report.waits = true ∧ s.port.turn = .upstream))

/-- A write of the Report Writer side has entered; with a write held, the tail turn passed to the Upstream Port (R113). -/
def State.entered (s : State) (q : QWrite) : State :=
  { s with
    pwq := s.pwq.place q
    port := { s.port with turn := if s.port.held.isSome = true then .upstream else s.port.turn } }

/-- The head entry has left the PWQ (R117): reads whose snapshot it leaves empty are eligible, in the order of their
snapshots, a last-carrier reference to it is none, and a header of the current ring has moved the drained produce index
(R190). -/
def State.withoutHead (s : State) (e : Entry) (rest : List Entry) : State :=
  let left : WaitingRead → List Nat := fun w => w.snapshot.filter (· != e.id)
  { s with
    pwq := { s.pwq with entries := rest }
    reads := { s.reads with
      waiting := (s.reads.waiting.filter fun w => left w != []).map fun w => { w with snapshot := left w }
      ready := s.reads.ready ++ (s.reads.waiting.filter fun w => left w == []).map (·.read) }
    down := { s.down with fetch := match s.down.fetch with
      | .waiting line ids =>
        if ids.filter (· != e.id) = [] then .ready line else .waiting line (ids.filter (· != e.id))
      | f => f }
    merge := { s.merge with
      lastCarrier := if s.merge.lastCarrier = some e.id then none else s.merge.lastCarrier }
    report := match e.header with
      | none => s.report
      | some p => { s.report with drained := p, irq := decide (p ≠ s.report.consume) } }

/-- The exposure of a tile has started (R10, R60 to R62): TRIG high with its pulse timer from 0, the exposure timer from 0,
the tile EXPOSING, its frame OPEN with counts at 0. -/
def State.exposing (s : State) (t : TileNo) (tile : Tile) : State :=
  { s with
    asm := { s.asm with tiles := s.asm.tiles.set t (some { tile with state := .exposing }) }
    seq := { s.seq with
      settleTimer := none, deferred := false, trig := true
      pulseTimer := some { value := 0, limit := s.setting (·.pulse) }
      expTimer := some { value := 0, limit := s.setting (·.expTimeout) * 1000 } }
    merge := { s.merge with frame := .opened, exposure := tile.expIndex, counter := 0, dark := 0, clip := 0 } }

end Sys2Proof.Machine
end

