-- ==== Sys2Proof/Certificates/Slice0/Obligations.lean ====
section
/-! DEFINITION. The statements about the part. `finish` in a conclusion stands for what follows a command's effect in its
step; `Obligations.EffectsAreFollowedInTheirStep` and `Obligations.RefreshMovesLevelsOnly` say all that it does. The records
`port.answers` and `down.issued` of what the part drove out are the model's own (log entry 7); a command stands for an event
as log entries 3 to 5 say. -/

section Statements

open Sys2Proof Sys2Proof.Machine

/-! ## The interface -/

/-- A step takes the command at the front of the queue and runs it on the state with the queue's rest. -/
def Obligations.StepRunsFrontCommand : Prop :=
  ∀ (c : Instr) (rest : List Instr) (s : State), s.pending = c :: rest → step s = exec c { s with pending := rest }

/-- No command and no step ends in a fault or a refusal, and a command leaves the queue's rest alone (log entry 20). -/
def Obligations.EveryStepAnswersNext : Prop :=
  (∀ (c : Instr) (s : State), ∃ t, exec c s = .next t ∧ t.pending = s.pending) ∧ ∀ s : State, ∃ t, step s = .next t

/-- The model's choice (log entry 1): with no command waiting, a step is the part's own step if that is possible, or one CLK
cycle. R176, R189, R113: the own step is the entry of the first ready line, possible when its write merges, or when an entry
is free that the tail turn does not keep for a waiting Upstream Port. That this entry is a step of its own is log entry 3. -/
def Obligations.IdleStepIsAnOwnStepOrOneCycle : Prop :=
  (∀ s : State, s.pending = [] →
    (s.ownStep = none → step s = .next (clkCycle s)) ∧ ∀ c, s.ownStep = some c → step s = exec c s)
  ∧ ∀ s : State,
    let row : ReadyLine → Instr := fun
      | .record => .recordLineEntry
      | .header _ _ _ => .headerLineEntry
      | .newHeader _ => .headerLineEntry
      | .result => .resultWordEntry
    (∀ c, s.ownStep = some c ↔
      ∃ l rest, s.report.ready = l :: rest ∧ c = row l ∧ ∀ q, s.readyWrite l = some q → s.MayEnter q)
    ∧ (∀ base p live, s.readyWrite (.header base p live) = some (headerWrite base p live))
    ∧ (∀ base, s.readyWrite (.newHeader base) = some (newHeaderWrite base))
    ∧ (∀ st r rs, s.plan.station = some st → s.report.queue = r :: rs →
      s.readyWrite .record = some (recordWrite st s.report.produce r s.report.dropped))
    ∧ (s.plan.station = none ∨ s.report.queue = [] → s.readyWrite .record = none)
    ∧ (∀ k w, s.plan.take = some k → k.step = .finished w →
      s.readyWrite .result = some (resultWrite (s.straps.toNat * 1048576 + k.slot.val * 256 + 252) w))
    ∧ (s.resultDue = false → s.readyWrite .result = none)

/-- What follows every effect: only the ready list, the note of the Report Writer side's waiting, the requested duty and
LAMP move. A record comes in hand when R189 gives it; the side waits once its first line has a need that the free entries do
not cover (R113); the request is what the first line of Table 8-2 that applies gives (R152), LAMP what R162 gives. What ends every
step: a due result word joins the ready list, so behind every Report Writer line that became ready in the step (R176, R189),
and the waiting of the Report Writer side is noted again. The model's choices: that these follow in the step of every event that
moves them (log entry 3), and that the Report Writer side, once its first line does not fit, goes on waiting until that line
enters (log entry 11). -/
def Obligations.RefreshMovesLevelsOnly : Prop :=
  ∀ s : State,
    let record : List ReadyLine :=
      if ∃ st, s.plan.station = some st ∧ s.report.queue ≠ [] ∧ s.report.lineInHand = none
        ∧ (s.report.produce + 1) % st.capacity ≠ s.report.consume then [.record] else []
    let lines : List ReadyLine := s.report.ready
      ++ if s.resultDue = true ∧ ReadyLine.result ∉ s.report.ready then [.result] else []
    let waits : List ReadyLine → Bool := fun ready => decide (ready ≠ []
      ∧ (s.report.waits = true ∨ s.pwq.free < State.readyNeed { s with report := { s.report with ready := ready } }))
    refresh s = { s with
      report := { s.report with ready := s.report.ready ++ record, waits := waits (s.report.ready ++ record) }
      lamp := { s.lamp with
        requested := s.requestNow.1, fromTile := s.requestNow.2
        out := decide (s.lamp.on = true ∧ s.stage.cut.level = false
          ∧ s.lamp.counter < min s.lamp.applied s.lamp.period) } }
    ∧ RequestLines s s.requestNow.1 s.requestNow.2
    ∧ refresh (refresh s) = refresh s
    ∧ conclude s = { s with report := { s.report with ready := lines, waits := waits lines } }
    ∧ (s.resultDue = true ↔ ∃ k w, s.plan.take = some k ∧ k.step = .finished w)
    ∧ conclude (conclude s) = conclude s

/-- R53, R64, R101, R113, R127, R141, R172, R182: what a step makes possible and the rules put into that step follows in it:
the fetched record is processed; else a waiting DISMISS takes its place, a tile is armed, a request of an accepting
controller is granted, the held write enters once its need is 0 or covered by free entries that the tail turn does not keep
for a waiting Report Writer side, and so does the line that side has waited with. After the step none of these is left to do:
a side that waits alone has taken the entries that cover its need. R176, R189: a result word that becomes due in the step joins the ready
list only at its end. The order of two of them is a free value (log entry 2); that the record comes first, and that a
ready line whose side has not waited enters in a step of its own, are the model's choices (log entry 3). -/
def Obligations.EffectsAreFollowedInTheirStep : Prop :=
  ∀ s : State,
    let fetched : Kind → Prop := fun kind => ∃ k, s.fetched kind = some k
    let record : Kind → Instr := fun
      | .station => .station
      | .plate => .plate
      | .retake => .retake
      | .dismiss => .dismiss
    let dismissable := ∃ (k : Take) (p : SlotNo) (plate : Plate), s.plan.take = some k ∧ k.step = .waitingReservation
      ∧ p.val = (wordAt k.body 0).toNat ∧ s.asm.plates[p] = some plate ∧ s.report.queue.length + s.report.reserved < 16
    let armable := s.seq.current = none ∧ s.plan.station.isSome = true ∧ s.stage.cut.level = false
      ∧ s.stage.dwell = none ∧ s.report.queue.length + s.report.reserved ≤ 14
      ∧ ∃ (p : SlotNo) (plate : Plate), s.asm.plates[p] = some plate ∧ plate.state = .assembling
        ∧ ∃ t ∈ plate.tiles, s.qualifies plate t = true
    let grantable := s.down.accept = true ∧ ∃ c, s.requests c = true
    let writes : HeldWrite → List QWrite := fun x => match x.cls with
      | .capture => (s.translate x.req).writes s.seq.current
      | .heldWrite => []
      | _ => (lineWrite (writeWords x.req) .upstream none).toList
    let held := ∃ x, s.port.held = some x ∧ (s.pwq.need (writes x) = 0
      ∨ (s.pwq.need (writes x) ≤ s.pwq.free ∧ ¬(s.report.waits = true ∧ s.port.turn = .report)))
    let waited := s.report.waits = true ∧ ∃ l rest q, s.report.ready = l :: rest ∧ s.readyWrite l = some q ∧ s.MayEnter q
    (∀ c, c ∈ s.follows ↔ (∃ kind, fetched kind ∧ c = record kind)
      ∨ ((∀ kind, ¬fetched kind)
        ∧ ((c = .dismissReservation ∧ dismissable) ∨ (c = .arming ∧ armable) ∨ (c = .arbiterGrant ∧ grantable)
          ∨ (c = .heldWriteEntry ∧ held) ∨ (waited ∧ s.ownStep = some c))))
    ∧ ((refresh s).follows = [] → finish s = conclude (refresh s))
    ∧ ((refresh s).follows ≠ [] →
      ∃ c ∈ (refresh s).follows, ∃ n ≤ 1, finish s = finish (effect c ((refresh s).draw n)))
    ∧ (finish s).follows = []
    ∧ ∃ v, finish s = conclude v ∧ (ReadyLine.result ∈ v.report.ready → ReadyLine.result ∈ s.report.ready)

/-! ## Reset -/

/-- The reset column of every chapter's state table, for the items the spec gives a value; and POWER_ON_RESET from any
state: every block at its reset value, the filtered levels and encoder references as the lines stood (R135), the straps as
read (R168). What the part drove out before, and the commands still to come, stay on record (log entry 9). -/
def Obligations.ResetAndPowerOnReset : Prop :=
  (
    let s := State.reset
    (∀ m : Master, s.port.outstanding[m] = false) ∧ s.port.held = none ∧ s.port.turn = .upstream
    ∧ s.pwq.entries = [] ∧ s.reads.waiting = [] ∧ s.reads.ready = [] ∧ s.reads.out = []
    ∧ s.merge.frame = .closed ∧ s.merge.exposure = 0 ∧ s.merge.counter = 0 ∧ s.merge.dark = 0 ∧ s.merge.clip = 0
    ∧ s.merge.stray = 0 ∧ s.merge.lastCarrier = none
    ∧ (∀ p : SlotNo, s.asm.plates[p] = none) ∧ (∀ t : TileNo, s.asm.tiles[t] = none)
    ∧ s.seq = { current := none, settleTimer := none, pulseTimer := none, deferred := false, expTimer := none
                captureHeld := false, trig := false, moveok := true }
    ∧ (∀ h : HoldNo, s.hold.pool[h] = none) ∧ s.hold.queue = []
    ∧ s.stage.posX = 0 ∧ s.stage.posY = 0 ∧ s.stage.dwell = some 0 ∧ s.stage.settled = false ∧ s.stage.watched = none
    ∧ s.filterDepth = 64
    ∧ s.lamp.on = false ∧ s.lamp.requested = 0 ∧ s.lamp.applied = 0 ∧ s.lamp.counter = 0 ∧ s.lamp.idleTimer = 0
    ∧ s.lamp.heat = 0 ∧ s.lamp.zone = .cool ∧ s.lamp.out = false
    ∧ (∀ k : PlanSlot, s.plan.posted[k] = false) ∧ s.plan.takeIndex = 0 ∧ s.plan.take = none ∧ s.plan.station = none
    ∧ s.arbMode = .fixed ∧ s.down.rotation = .read ∧ s.down.fetch = .idle
    ∧ s.report.produce = 0 ∧ s.report.drained = 0 ∧ s.report.consume = 0 ∧ s.report.queue = [] ∧ s.report.reserved = 0
    ∧ s.report.dropped = false ∧ s.report.lineInHand = none ∧ s.report.ready = [] ∧ s.report.irq = false
    ∧ s.pending = [])
  ∧ (∀ (lines : StageLines) (straps : BitVec 12) (s : State),
      exec (.powerOnReset lines straps) s = .next { State.reset with
        stage := { State.reset.stage with
          xa := ⟨lines.xa, lines.xa, 0⟩, xb := ⟨lines.xb, lines.xb, 0⟩, ya := ⟨lines.ya, lines.ya, 0⟩
          yb := ⟨lines.yb, lines.yb, 0⟩, homeX := ⟨lines.homeX, lines.homeX, 0⟩, homeY := ⟨lines.homeY, lines.homeY, 0⟩
          cut := ⟨lines.cut, lines.cut, 0⟩, refX := (lines.xa, lines.xb), refY := (lines.ya, lines.yb) }
        straps := straps
        port := { State.reset.port with answers := s.port.answers }
        down := { State.reset.down with issued := s.down.issued }
        clock := { State.reset.clock with draws := s.clock.draws }
        pending := s.pending })

/-! ## Requests of the masters -/

/-- R98: a request with an unaligned address, or whose last beat lies beyond the line of the first, is answered FAULT at
once, whatever else stands, and it has no other effect. -/
def Obligations.MisalignedRequestIsFaulted : Prop :=
  (∀ (w : WriteReq) (s : State), w.addr.toNat % 4 ≠ 0 ∨ 32 < w.addr.toNat % 32 + 4 * w.beats.length →
    ∀ c ∈ [Instr.upstreamRequestFault (.write w), .post w, .withdrawal w, .consume w, .capture w, .heldWrite w,
      .plainWrite w], exec c s = .next (finish (s.answeredOnly w.master .fault [])))
  ∧ ∀ (r : ReadReq) (s : State), r.addr.toNat % 4 ≠ 0 ∨ 32 < r.addr.toNat % 32 + 4 * r.beats →
    ∀ c ∈ [Instr.upstreamRequestFault (.read r), .heldRead r, .plainRead r],
      exec c s = .next (finish (s.answeredOnly r.master .fault []))

/-- R99, R101: of the requests that pass R98, a master with a read outstanding or a write held has none taken; and while a
write is held no write of any master is decoded. That such a command changes nothing, and has to be sent again, is the
model's choice (log entry 6); that R98 is decided before this, also for a blocked master, is log entry 13 (DEDUCED). -/
def Obligations.BlockedRequestsAreNotTaken : Prop :=
  (∀ (w : WriteReq) (s : State), fitsLine w.addr w.beats.length = true →
    s.port.outstanding[w.master] = true ∨ s.port.held.isSome = true →
    ∀ c ∈ [Instr.upstreamRequestFault (.write w), .post w, .withdrawal w, .consume w, .capture w, .heldWrite w,
      .plainWrite w], exec c s = .next (finish s))
  ∧ (∀ (r : ReadReq) (s : State), fitsLine r.addr r.beats = true →
    s.port.outstanding[r.master] = true ∨ s.port.held.any (·.req.master == r.master) = true →
    ∀ c ∈ [Instr.upstreamRequestFault (.read r), .heldRead r, .plainRead r], exec c s = .next (finish s))
  ∧ ∀ (a : BitVec 32) (n : Nat), fitsLine a n = true ↔ a.toNat % 4 = 0 ∧ a.toNat % 32 + 4 * n ≤ 32

/-- R103: a write is tested against the classes in the order of Table 5-4, and the first that fits is its class; while
UNCONFIGURED only POST is tested. A full-word beat at an address is the beat of the word there, with all four enables. -/
def Obligations.WritesAreClassedInOrder : Prop :=
  ∀ (w : WriteReq) (s : State),
    let at' : Nat → Option Word := fullBeatAt w
    (∀ (a : Nat) (v : Word), at' a = some v ↔
      ∃ (i : Nat) (b : Beat), w.beats[i]? = some b ∧ b.be = 15#4 ∧ w.addr.toNat + 4 * i = a ∧ b.data = v)
    ∧ (∀ (k : PlanSlot) (v : Word), at' (s.straps.toNat * 1048576 + k.val * 256 + 252) = some v →
      (∀ j < k, at' (s.straps.toNat * 1048576 + j.val * 256 + 252) = none) → s.classify w = .post k v)
    ∧ ((∀ k : PlanSlot, at' (s.straps.toNat * 1048576 + k.val * 256 + 252) = none) →
      (s.plan.station = none → s.classify w = .plain)
      ∧ ∀ st, s.plan.station = some st →
        (∀ v, at' (st.reportBase + 4) = some v → s.classify w = .consume v)
        ∧ (at' (st.reportBase + 4) = none →
          let captured := w.master = st.captureMaster ∧ st.windowBase ≤ w.addr.toNat
            ∧ w.addr.toNat < st.windowBase + st.windowLength
          let held := ∃ (h : HoldNo) (x : Hold), s.hold.pool[h] = some x ∧ x.base ≤ w.addr.toNat / 32 * 32
            ∧ w.addr.toNat / 32 * 32 < x.base + x.size
          (captured → s.classify w = .capture)
          ∧ (¬captured → held → s.classify w = .heldWrite)
          ∧ (¬captured → ¬held → s.classify w = .plain)))

/-- R100, R101, R106, R195: a PLAIN write is answered OK and its queue write enters, or it becomes the held write. The queue
write of an upstream write lies in its line with source UPSTREAM and no tile reference; it carries the enabled bytes of its
beats at their own places and no other byte, and there is none when no enable is set. -/
def Obligations.PlainWriteIsPosted : Prop :=
  (∀ (w : WriteReq) (s : State), s.Takes w → s.classify w = .plain →
      exec (.plainWrite w) s = .next (finish (s.postedOrHeld .plain w)))
  ∧ (∀ w : WriteReq, fitsLine w.addr w.beats.length = true →
      (lineWrite (writeWords w) .upstream none = none ↔ ∀ b ∈ w.beats, b.be = 0)
      ∧ ∀ q, lineWrite (writeWords w) .upstream none = some q →
        q.line = w.addr.toNat / 32 * 32 ∧ q.source = .upstream ∧ q.tileRef = none ∧ q.header = none
        ∧ (∀ (i : Nat) (b : Beat), w.beats[i]? = some b → ∀ j < 4,
          q.bytes[w.addr.toNat % 32 + 4 * i + j]? =
            some (if b.be.getLsbD j then some (b.data.extractLsb' (8 * j) 8) else none))
        ∧ ∀ k < 32, (k < w.addr.toNat % 32 ∨ w.addr.toNat % 32 + 4 * w.beats.length ≤ k) → q.bytes[k]? = some none)

/-- R109, R110, R111: a queue write merges into the WAITING entry of its line (its bytes win, the higher source stands, a
tile reference fills an empty one, place and fence stay), or opens a new WAITING entry at the tail. The entry keeps the
produce index of the last header write that entered it (R190, log entry 16), also where the entry is older than that header's
record line (log entry 30). R23: a write that carries the current tile
moves the last-carrier reference to the entry it reached, unless the reference is later in creation order; any other write
leaves it. The queue writes of one taking enter one after another (R19). -/
def Obligations.QueueWriteMergesOrOpens : Prop :=
  (∀ (q : Pwq) (w : QWrite),
    (q.hasWaiting w.line = true → (q.place w).nextId = q.nextId ∧ (q.place w).entries.length = q.entries.length
      ∧ ∀ (i : Nat) (e : Entry), q.entries[i]? = some e → ∃ e', (q.place w).entries[i]? = some e'
        ∧ (¬(e.line = w.line ∧ e.state = .waiting) → e' = e)
        ∧ (e.line = w.line ∧ e.state = .waiting →
          e'.id = e.id ∧ e'.line = e.line ∧ e'.fence = e.fence ∧ e'.state = e.state
          ∧ (∀ j : Fin 32, e'.bytes[j] = if w.bytes[j].isSome then w.bytes[j] else e.bytes[j])
          ∧ e'.source.rank = max e.source.rank w.source.rank
          ∧ e'.tileRef = (if e.tileRef.isSome then e.tileRef else w.tileRef)
          ∧ e'.header = (if w.header.isSome then w.header else e.header)))
    ∧ (q.hasWaiting w.line = false →
      (q.place w).entries = q.entries ++ [{ id := q.nextId, line := w.line, bytes := w.bytes, source := w.source
                                            tileRef := w.tileRef, fence := none, state := .waiting
                                            header := w.header }]
      ∧ (q.place w).nextId = q.nextId + 1)
    ∧ (q.hasWaiting w.line = true ↔ ∃ e ∈ q.entries, e.line = w.line ∧ e.state = .waiting))
  ∧ (∀ (s : State) (w : QWrite),
    let later : Nat → Option Nat := fun id => some (match s.merge.lastCarrier with
      | none => id
      | some k => max k id)
    (w.tileRef = none ∨ w.tileRef ≠ s.seq.current → s.placeOne w = { s with pwq := s.pwq.place w })
    ∧ ∀ t, w.tileRef = some t → s.seq.current = some t →
      (∀ a e b, s.pwq.entries = a ++ e :: b → e.line = w.line → e.state = .waiting →
        (∀ x ∈ a, ¬(x.line = w.line ∧ x.state = .waiting)) →
        s.placeOne w = { s with pwq := s.pwq.place w, merge := { s.merge with lastCarrier := later e.id } })
      ∧ (s.pwq.hasWaiting w.line = false →
        s.placeOne w = { s with pwq := s.pwq.place w, merge := { s.merge with lastCarrier := later s.pwq.nextId } }))
  ∧ ∀ (s : State) (w : QWrite) (ws : List QWrite),
    s.placeAll [] = s ∧ s.placeAll (w :: ws) = (s.placeOne w).placeAll ws

/-- R170 to R173: a POST write while a slot is being taken sets its slot's flag, unless that slot is the one being taken;
while none is being taken it starts a take of the first posted slot in ring order from the take index. A withdrawal clears
its slot's flag, unless the slot is being taken. The write goes on like a PLAIN write.
A started take presents line 7 unless a POST write of its slot is held (log entry 12, DEDUCED for a later one). -/
def Obligations.PostWritesMoveTheFlags : Prop :=
  (∀ (w : WriteReq) (s : State) (k : PlanSlot) (v : Word) (tk : Take), s.Takes w → s.classify w = .post k v → v ≠ 0 →
      s.plan.take = some tk →
      let flags := if tk.slot = k then s.plan.posted else s.plan.posted.set k true
      exec (.post w) s = .next (finish
        (State.postedOrHeld { s with plan := { s.plan with posted := flags } } (.post k v) w)))
  ∧ (∀ (w : WriteReq) (s : State) (k j : PlanSlot) (v : Word), s.Takes w → s.classify w = .post k v → v ≠ 0 →
      s.plan.take = none →
      let plan := { s.plan with posted := s.plan.posted.set k true }
      plan.FirstPosted j →
      exec (.post w) s = .next (finish
        ((State.postedOrHeld { s with plan := plan } (.post k v) w).takeStarted j)))
  ∧ (∀ (w : WriteReq) (s : State) (k : PlanSlot), s.Takes w → s.classify w = .post k 0 →
      let flags := if ∃ tk, s.plan.take = some tk ∧ tk.slot = k then s.plan.posted else s.plan.posted.set k false
      exec (.withdrawal w) s = .next (finish
        (State.postedOrHeld { s with plan := { s.plan with posted := flags } } (.post k 0) w)))

/-- R191, R192: a consume value below N that lies forward from C no further than the drained produce index becomes C, and
IRQ is set again; any other value is ignored. The write goes on like a PLAIN write. -/
def Obligations.ConsumeMovesTheIndex : Prop :=
  ∀ (w : WriteReq) (s : State) (st : Station) (v : Word), s.Takes w → s.classify w = .consume v →
    s.plan.station = some st → s.report.consume < st.capacity → s.report.drained < st.capacity →
    let n : Int := st.capacity
    let c : Int := s.report.consume
    let taken := (v.toNat : Int) < n ∧ ((v.toNat : Int) - c) % n ≤ ((s.report.drained : Int) - c) % n
    (taken → exec (.consume w) s = .next (finish (State.postedOrHeld { s with report := { s.report with
        consume := v.toNat, irq := decide (s.report.drained ≠ v.toNat) } } (.consume v) w)))
    ∧ (¬taken → exec (.consume w) s = .next (finish (s.postedOrHeld (.consume v) w)))

/-- R92, R95: a write into a held band is answered FAULT, nothing enters the PWQ, and WRITE_REFUSED is offered. -/
def Obligations.HeldWriteIsRefused : Prop :=
  ∀ (w : WriteReq) (s : State), s.Takes w → s.classify w = .heldWrite →
    exec (.heldWrite w) s = .next (finish ((s.answeredOnly w.master .fault []).offer
      (.writeRefused w.master (w.addr.toNat / 32 * 32))))

/-- R188: a droppable record is discarded while UNCONFIGURED; else it is queued at the tail when occupied plus reserved is
below 16, and otherwise dropped with the DROPPED flag set. -/
def Obligations.DroppableRecordIsQueuedOrDropped : Prop :=
  ∀ (r : Record) (s : State),
    (s.plan.station = none → s.offer r = s)
    ∧ (s.plan.station.isSome = true → s.report.queue.length + s.report.reserved < 16 →
      s.offer r = { s with report := { s.report with queue := s.report.queue ++ [r] } })
    ∧ (s.plan.station.isSome = true → 16 ≤ s.report.queue.length + s.report.reserved →
      s.offer r = { s with report := { s.report with dropped := true } })

/-- R83 to R85, R99, R106: a read of no held band sets its master's flag and is sent toward memory, to be answered OK. A
read of a held band sets the flag too; under PASS it is sent on at once, to be answered STALE, with STALE_READ offered;
under WAIT it enters the Held-Read Queue with its hold timer at 0. R114, R124: a read sent toward memory takes the entries
of its line as its snapshot; it joins the READ class when there is none, and waits otherwise. -/
def Obligations.ReadsAreForwardedOrHeld : Prop :=
  (∀ (r : PortRead) (s : State),
      let ids := (s.pwq.entries.filter (·.line == r.addr.toNat / 32 * 32)).map (·.id)
      (ids = [] → s.forward r = { s with reads := { s.reads with ready := s.reads.ready ++ [r] } })
      ∧ (ids ≠ [] → s.forward r =
        { s with reads := { s.reads with waiting := s.reads.waiting ++ [{ read := r, snapshot := ids }] } }))
  ∧ (∀ (r : ReadReq) (s : State), s.TakesRead r →
      (∀ (h : HoldNo) (x : Hold), s.hold.pool[h] = some x →
        ¬(x.base ≤ r.addr.toNat / 32 * 32 ∧ r.addr.toNat / 32 * 32 < x.base + x.size)) →
      exec (.plainRead r) s = .next (finish (State.forward
        { master := r.master, addr := r.addr, beats := r.beats, stale := false }
        { s with port := { s.port with outstanding := s.port.outstanding.set r.master true } })))
  ∧ (∀ (r : ReadReq) (s : State) (h : HoldNo) (x : Hold), s.TakesRead r → s.hold.pool[h] = some x →
      x.base ≤ r.addr.toNat / 32 * 32 → r.addr.toNat / 32 * 32 < x.base + x.size →
      (∀ (g : HoldNo) (y : Hold), s.hold.pool[g] = some y → y.base ≤ r.addr.toNat / 32 * 32 →
        r.addr.toNat / 32 * 32 < y.base + y.size → g = h) →
      let a : State := { s with port := { s.port with outstanding := s.port.outstanding.set r.master true } }
      (x.policy = .pass → exec (.heldRead r) s = .next (finish ((a.forward
        { master := r.master, addr := r.addr, beats := r.beats, stale := true }).offer
          (.staleRead r.master (r.addr.toNat / 32 * 32) .pass))))
      ∧ (x.policy = .wait → exec (.heldRead r) s = .next (finish { a with hold := { s.hold with
          queue := s.hold.queue ++ [{ master := r.master, addr := r.addr, beats := r.beats, hold := h
                                      timer := { value := 0, limit := s.setting (·.holdTimeout) * 1000 } }] } })))

/-! ## Captures (chapter 1) -/

/-- R12, R13's count, R100: while the frame is CLOSED or no tile is in the sequencer, all beats of a capture write are
stray: they count, saturating, and go on as one write to their own line; a write that finds no room is held with nothing
counted. -/
def Obligations.CaptureOutsideFrameIsStray : Prop :=
  ∀ (w : WriteReq) (s : State), s.Takes w → s.classify w = .capture →
    s.merge.frame = .closed ∨ s.currentTile = none → w.beats ≠ [] →
    let a : State := { s with merge := { s.merge with
      stray := min 4294967295 (s.merge.stray + w.beats.length) } }
    (lineWrite (writeWords w) .upstream none = none →
      exec (.capture w) s = .next (finish (a.answeredOnly w.master .ok [])))
    ∧ ∀ q, lineWrite (writeWords w) .upstream none = some q →
      (s.Room q → exec (.capture w) s = .next (finish (a.posted q w.master)))
      ∧ (¬s.Room q → exec (.capture w) s = .next (finish (s.withHeld .capture w)))

/-- R11, R19, R112: a capture write whose frame goes on enters whole, its queue writes in their order, and the Merge Unit
takes the counts; without room for its need it is held and the Merge Unit does nothing. R10, R14: its beats are translated
in their order from the Merge Unit's counts, against the current tile, its plate and the open frame's exposure. R16, R17,
R19: the writes are the image write and the proof write, with source MERGE and the current tile's reference, and the stray
write with source UPSTREAM and none, in this order, each only when a byte of it is enabled; a byte is that of the last word
that enables it (R195). -/
def Obligations.CaptureIntoOpenFrame : Prop :=
  (∀ (w : WriteReq) (s : State), s.Takes w → s.classify w = .capture →
    let sc := s.translate w
    let ws := sc.writes s.seq.current
    let a := s.placeAll ws
    (s.pwq.need ws ≤ s.pwq.free → sc.complete = false → exec (.capture w) s = .next (finish { a with
      merge := { a.merge with counter := sc.counter, dark := sc.dark, clip := sc.clip, stray := sc.stray }
      port := { s.port with
        turn := if ws ≠ [] ∧ s.report.waits = true then .report else s.port.turn
        answers := s.answered w.master .ok [] } }))
    ∧ (s.pwq.free < s.pwq.need ws → exec (.capture w) s = .next (finish (s.withHeld .capture w))))
  ∧ (∀ (w : WriteReq) (s : State),
    s.translate w = (w.beats.zipIdx.map fun x =>
        ({ addr := w.addr.toNat + 4 * x.2, data := x.1.data, be := x.1.be } : WordWrite)).foldl (Scan.beat s.frameCtx)
      { counter := s.merge.counter, dark := s.merge.dark, clip := s.merge.clip, stray := s.merge.stray
        complete := false, image := [], proof := [], strays := [] })
  ∧ (∀ s : State,
    (s.merge.frame = .closed ∨ s.currentTile = none → s.frameCtx = none)
    ∧ ∀ t tile plate st x, s.merge.frame = .opened → s.currentTile = some (t, tile, plate) →
      s.plan.station = some st → plate.bracket[s.merge.exposure]? = some x →
      s.frameCtx = some { window := st.windowBase, geo := plate.geo, proofBase := plate.proofBase, exposure := x
                          index := tile.index, row := tile.row, col := tile.col, first := s.merge.exposure == 0
                          tile := t })
  ∧ (∀ (sc : Scan) (current : Option TileNo),
    sc.writes current = (lineWrite sc.image .merge current).toList ++ (lineWrite sc.proof .merge current).toList
      ++ (lineWrite sc.strays .upstream none).toList)
  ∧ ∀ (x : WordWrite) (rest : List WordWrite) (source : Source) (ref : Option TileNo),
    (lineWrite [] source ref = none) ∧ (lineWrite (x :: rest) source ref = none ↔ ∀ y ∈ x :: rest, y.be = 0)
    ∧ ∀ q, lineWrite (x :: rest) source ref = some q →
      q.line = x.addr / 32 * 32 ∧ q.source = source ∧ q.tileRef = ref ∧ q.header = none
      ∧ ∀ k : Fin 32, q.bytes[k] = (x :: rest).reverse.findSome? fun y =>
        if y.addr % 32 / 4 = k.val / 4 ∧ y.be.getLsbD (k.val % 4) = true then
          some (y.data.extractLsb' (8 * (k.val % 4)) 8) else none

/-- R12, R14 to R18, R20: a frame beat of frame word o counts once; a kept word goes to its destination with the stored
values of the lanes that are complete and, after exposure 0, below the clip level, and its complete lanes are scored; in
exposure 0 with a proof base every frame beat is copied unchanged. After the frame completed, or beyond its words, a beat
is stray: it counts, saturating, joins the stray write and changes no other count. That a beat below the window's base is
stray is the model's choice (log entry 28). -/
def Obligations.CaptureBeatsAreTranslated : Prop :=
  (∀ (c : FrameCtx) (sc : Scan) (w : WordWrite) (o : Nat),
      w.addr = c.window + 4 * o → o < c.geo.frameWords → sc.complete = false →
      let t := Scan.beat (some c) sc w
      let row := o / c.geo.rowWords
      let sample := o % c.geo.rowWords * 2
      let kept := c.geo.top ≤ row ∧ row < c.geo.height - c.geo.bottom ∧ c.geo.left ≤ sample
        ∧ sample + 1 < c.geo.width - c.geo.right
      let whole : Nat → Prop := fun l => w.be.getLsbD (2 * l) = true ∧ w.be.getLsbD (2 * l + 1) = true
      let value : Nat → Nat := fun l => w.data.toNat / 2 ^ (16 * l) % 4096
      let written : Nat → Prop := fun l => whole l ∧ (c.first = true ∨ value l < c.exposure.clip)
      t.counter = sc.counter + 1 ∧ t.stray = sc.stray ∧ t.strays = sc.strays
      ∧ (t.complete = true ↔ c.geo.frameWords ≤ sc.counter + 1)
      ∧ (¬kept → t.image = sc.image ∧ t.dark = sc.dark ∧ t.clip = sc.clip)
      ∧ (kept → ∃ x : WordWrite, t.image = sc.image ++ [x]
        ∧ x.addr = c.geo.imageBase + (c.row * c.geo.keptHeight + (row - c.geo.top)) * c.geo.pitch
          + (c.col * c.geo.keptWidth + (sample - c.geo.left)) * 2
        ∧ (∀ l < 2, ∀ j < 2, x.be.getLsbD (2 * l + j) = true ↔ written l)
        ∧ (∀ l < 2, x.data.toNat / 2 ^ (16 * l) % 65536 = value l * 2 ^ (4 - c.exposure.step))
        ∧ t.dark = min 65535 (sc.dark + ([0, 1].countP fun l => decide (whole l ∧ value l < c.exposure.floor)))
        ∧ t.clip = min 65535 (sc.clip + ([0, 1].countP fun l => decide (whole l ∧ c.exposure.clip ≤ value l))))
      ∧ (∀ b, c.first = true → c.proofBase = some b →
        t.proof = sc.proof ++ [{ w with addr := b + c.index * c.geo.frameBytes + o * 4 }])
      ∧ (c.first = false ∨ c.proofBase = none → t.proof = sc.proof))
  ∧ (∀ (c : FrameCtx) (sc : Scan) (w : WordWrite), sc.complete = true ∨ w.addr < c.window
        ∨ c.geo.frameWords ≤ (w.addr - c.window) / 4 →
      Scan.beat (some c) sc w = { sc with stray := min 4294967295 (sc.stray + 1), strays := sc.strays ++ [w] })

/-- R20, R21, R63, R64: at a completion the pair joins the tile's statistics and the skip rule decides: ARMED for the next
exposure when one follows and the dark count is above 0; else CLOSING with outcome DONE, the heat value as closing heat
and the fence on the last carrier, with the sequencer IDLE and MOVEOK high. R24: with no last carrier, when every entry with
a write of the tile has retired, the fence is delivered at once. -/
def Obligations.CompletionFollowsTheSkipRule : Prop :=
  ∀ (w : WriteReq) (s : State) (t : TileNo) (tile : Tile) (plate : Plate), s.Takes w → s.classify w = .capture →
    let sc := s.translate w
    let ws := sc.writes s.seq.current
    let a := s.placeAll ws
    let x : Tile := { tile with stats := tile.stats ++ [(sc.dark, sc.clip)] }
    let next := s.merge.exposure + 1
    s.pwq.need ws ≤ s.pwq.free → sc.complete = true → s.currentTile = some (t, tile, plate) →
    ∃ u, exec (.capture w) s = .next (finish u) ∧ u.merge.frame = .closed ∧ u.merge.stray = sc.stray
      ∧ u.port.answers = s.answered w.master .ok []
      ∧ (next < plate.bracket.length ∧ sc.dark ≠ 0 →
        u.asm.tiles[t] = some { x with
          state := .armed, expIndex := next
          heatWaits := if s.lamp.zone = .warm then min 255 (tile.heatWaits + 1) else tile.heatWaits }
        ∧ u.seq = { s.seq with expTimer := none } ∧ u.pwq = a.pwq)
      ∧ (¬(next < plate.bracket.length ∧ sc.dark ≠ 0) →
        u.seq = { s.seq with current := none, settleTimer := none, deferred := false, expTimer := none, moveok := true }
        ∧ u.stage.watched = none ∧ u.merge.lastCarrier = none
        ∧ (∀ id, a.merge.lastCarrier = some id →
          u.asm.tiles[t] = some { x with
            state := .closing .done (some s.lamp.heat), skipped := decide (next < plate.bracket.length) }
          ∧ u.pwq.entries = a.pwq.entries.map fun e => if e.id = id then { e with fence := some t } else e)
        ∧ (a.merge.lastCarrier = none →
          let v : State := { a with
            port := { a.port with turn := if ws ≠ [] ∧ s.report.waits = true then .report else s.port.turn }
            asm := { s.asm with tiles := s.asm.tiles.set t (some { x with
              state := .closing .done (some s.lamp.heat), skipped := decide (next < plate.bracket.length) }) }
            seq := { s.seq with
              current := none, settleTimer := none, deferred := false, expTimer := none, moveok := true }
            merge := { a.merge with
              frame := .closed, counter := sc.counter, dark := sc.dark, clip := sc.clip, stray := sc.stray }
            stage := { s.stage with watched := none } }
          u = { v.deliverFence t with port := { v.port with answers := s.answered w.master .ok [] } }))

/-! ## The tail of the queue -/

/-- R11, R101, R102, R113: the held write enters as soon as it can be placed and the tail turn lets it, and is answered OK;
the port is free, and its capture master released; a deferred line 7 is presented (R173). A held capture is translated at
its entry, against the Merge Unit's state as it stands then. Either waits otherwise. -/
def Obligations.HeldWriteEnters : Prop :=
  (∀ (s : State) (w : WriteReq) (c : WriteClass) (q : QWrite), s.port.held = some { req := w, cls := c } →
      c ≠ .capture → c ≠ .heldWrite → lineWrite (writeWords w) .upstream none = some q →
      let a : State := { s with
        port := { s.port with held := none }
        seq := { s.seq with
          captureHeld := if s.plan.station.any (·.captureMaster == w.master) then false else s.seq.captureHeld } }
      let may := s.pwq.hasWaiting q.line = true
        ∨ (s.pwq.entries.length < 16 ∧ ¬(s.report.waits = true ∧ s.port.turn = .report))
      (may → (∀ k, s.down.fetch = .deferred → s.plan.take = some k →
          exec .heldWriteEntry s = .next (finish
            { a.posted q w.master with down := { s.down with fetch := (a.posted q w.master).presented k.slot 7 } }))
        ∧ (s.down.fetch ≠ .deferred → exec .heldWriteEntry s = .next (finish (a.posted q w.master))))
      ∧ (¬may → exec .heldWriteEntry s = .next (finish s)))
  ∧ (∀ (s : State) (w : WriteReq), s.port.held = some { req := w, cls := .capture } → s.down.fetch ≠ .deferred →
      let sc := s.translate w
      let ws := sc.writes s.seq.current
      let a := s.placeAll ws
      s.pwq.need ws = 0 ∨ (s.pwq.need ws ≤ s.pwq.free ∧ ¬(s.report.waits = true ∧ s.port.turn = .report)) →
      sc.complete = false →
      exec .heldWriteEntry s = .next (finish { a with
        merge := { a.merge with counter := sc.counter, dark := sc.dark, clip := sc.clip, stray := sc.stray }
        port := { s.port with
          held := none
          turn := if ws ≠ [] ∧ s.report.waits = true then .report else s.port.turn
          answers := s.answered w.master .ok [] }
        seq := { s.seq with
          captureHeld := if s.plan.station.any (·.captureMaster == w.master) then false else s.seq.captureHeld } }))
  ∧ (∀ (s : State) (w : WriteReq), s.port.held = some { req := w, cls := .capture } → s.down.fetch ≠ .deferred →
      let free : State := { s with
        port := { s.port with held := none }
        seq := { s.seq with
          captureHeld := if s.plan.station.any (·.captureMaster == w.master) then false else s.seq.captureHeld } }
      let need := s.pwq.need ((s.translate w).writes s.seq.current)
      need = 0 ∨ (need ≤ s.pwq.free ∧ ¬(s.report.waits = true ∧ s.port.turn = .report)) →
      free.Takes w → free.classify w = .capture → exec .heldWriteEntry s = exec (.capture w) free)
  ∧ (∀ (s : State) (w : WriteReq), s.port.held = some { req := w, cls := .capture } →
      let need := s.pwq.need ((s.translate w).writes s.seq.current)
      need ≠ 0 → s.pwq.free < need ∨ (s.report.waits = true ∧ s.port.turn = .report) →
      exec .heldWriteEntry s = .next (finish s))
  ∧ ∀ s : State, s.port.held = none → exec .heldWriteEntry s = .next (finish s)

/-- R113, R185, R189, R193: the record line in hand enters at place P when it can be placed: its record leaves the queue,
DROPPED clears, P advances, and the header write carrying the new P comes in hand. The header write in hand, or the whole
header line of a new ring, enters likewise. Each waits otherwise. -/
def Obligations.ReportLinesEnter : Prop :=
  (∀ (s : State) (st : Station) (r : Record) (rs : List Record) (rest : List ReadyLine),
      s.plan.station = some st → s.report.queue = r :: rs → s.report.ready = .record :: rest →
      let q := recordWrite st s.report.produce r s.report.dropped
      let next := (s.report.produce + 1) % st.capacity
      (s.MayEnter q → exec .recordLineEntry s = .next (finish { s.entered q with report := { s.report with
          queue := rs, dropped := false, produce := next, waits := false
          ready := rest ++ [.header st.reportBase next true] } }))
      ∧ (¬s.MayEnter q → exec .recordLineEntry s = .next (finish s)))
  ∧ (∀ (s : State) (l : ReadyLine) (rest : List ReadyLine) (q : QWrite), s.report.ready = l :: rest →
      (∃ base p live, l = .header base p live ∧ q = headerWrite base p live)
        ∨ (∃ base, l = .newHeader base ∧ q = newHeaderWrite base) →
      (s.MayEnter q → exec .headerLineEntry s = .next (finish { s.entered q with report := { s.report with
          waits := false, ready := rest } }))
      ∧ (¬s.MayEnter q → exec .headerLineEntry s = .next (finish s)))

/-- R171, R176: the result word enters as a full word at the slot's post word with source PLAN and ends the take: the slot
is idle, the take index is its number + 1, and the first posted slot from there is taken: its line 7 is presented (R172),
but not while a post write of that slot is held (R173), where any held POST write of the slot counts (log entry 12,
DEDUCED). It waits otherwise. -/
def Obligations.ResultWordEndsTheTake : Prop :=
  ∀ (s : State) (k : Take) (result : Word) (rest : List ReadyLine), s.report.ready = .result :: rest →
    s.plan.take = some k → k.step = .finished result →
    let post := s.straps.toNat * 1048576 + k.slot.val * 256 + 252
    let q : QWrite := { line := post / 32 * 32, bytes := wordBytes 7 result 15, source := .plan, tileRef := none
                        header := none }
    let a : State := { s.entered q with
      report := { s.report with waits := false, ready := rest }
      plan := { s.plan with take := none, takeIndex := k.slot + 1 } }
    (s.MayEnter q →
      ((∀ j : PlanSlot, s.plan.posted[j] = false) → exec .resultWordEntry s = .next (finish a))
      ∧ ∀ j, a.plan.FirstPosted j → exec .resultWordEntry s = .next (finish (a.takeStarted j)))
    ∧ (¬s.MayEnter q → exec .resultWordEntry s = .next (finish s))

/-- R185, R189, R197 with Tables 11-5 to 11-8 and 9-3: what a record line and the two kinds of header write carry: whole
words at their places, with the enables of those words alone; the eight words of each record kind, bit by bit, for field
values within their fields; and the bits of a result word. -/
def Obligations.ReportLinesCarryTheirWords : Prop :=
  (∀ (st : Station) (p : Nat) (r : Record) (d : Bool) (i j : Nat), i < 8 → j < 4 → st.reportBase % 32 = 0 →
    (recordWrite st p r d).line = st.reportBase + 32 + 32 * p ∧ (recordWrite st p r d).source = .report
    ∧ (recordWrite st p r d).tileRef = none ∧ (recordWrite st p r d).header = none
    ∧ (recordWrite st p r d).bytes[4 * i + j]? = some (some (((r.words d).getD i 0).extractLsb' (8 * j) 8)))
  ∧ (∀ (base p : Nat) (live : Bool) (k : Fin 32), (headerWrite base p live).line = base
    ∧ (headerWrite base p live).source = .report ∧ (headerWrite base p live).tileRef = none
    ∧ (headerWrite base p live).header = (if live = true then some p else none)
    ∧ (headerWrite base p live).bytes[k] =
      if k.val < 4 then some ((BitVec.ofNat 32 p).extractLsb' (8 * k.val) 8) else none)
  ∧ (∀ (base : Nat) (k : Fin 32), base % 32 = 0 → (newHeaderWrite base).line = base
    ∧ (newHeaderWrite base).source = .report ∧ (newHeaderWrite base).tileRef = none
    ∧ (newHeaderWrite base).header = some 0 ∧ (newHeaderWrite base).bytes[k] = some 0)
  ∧ (let word0 : Nat → Bool → Nat → Nat → Word := fun kind dropped slot index =>
      0#2 ++ BitVec.ofNat 6 index ++ 0#6 ++ BitVec.ofNat 2 slot ++ BitVec.ofBool dropped ++ 0#7 ++ BitVec.ofNat 8 kind
    let counts : Nat → Nat → Word := fun done failed => 0#9 ++ BitVec.ofNat 7 failed ++ 0#9 ++ BitVec.ofNat 7 done
    (∀ slot index tag taken skipped retries waits stats heat d, index < 64 → taken < 8 → retries < 4 → waits < 256 →
      heat < 65536 → (∀ x ∈ stats, x.1 < 65536 ∧ x.2 < 65536) → stats.length = taken →
      let pair : Nat → Word := fun e => match stats[e]? with
        | some (dark, clip) => BitVec.ofNat 16 clip ++ BitVec.ofNat 16 dark
        | none => 0
      (Record.tileDone slot index tag taken skipped retries waits stats heat).words d =
        [word0 1 d slot.val index, tag,
          0#8 ++ BitVec.ofNat 8 waits ++ 0#6 ++ BitVec.ofNat 2 retries ++ 0#4 ++ BitVec.ofBool skipped
            ++ BitVec.ofNat 3 taken,
          pair 0, pair 1, pair 2, pair 3, 0#16 ++ BitVec.ofNat 16 heat])
    ∧ (∀ slot index tag e (reason : Reason) retries final d, index < 64 → e < 4 → retries < 4 →
      let number : BitVec 3 := match reason with
        | .motion => 1
        | .timeout => 2
        | .encoder => 3
        | .heat => 4
        | .homed => 5
        | .memory => 6
      (Record.tileFault slot index tag e reason retries final).words d =
        [word0 2 d slot.val index, tag,
          0#7 ++ BitVec.ofBool final ++ 0#6 ++ BitVec.ofNat 2 retries ++ 0#5 ++ number ++ 0#6 ++ BitVec.ofNat 2 e,
          0, 0, 0, 0, 0])
    ∧ (∀ slot tag done failed d, done < 128 → failed < 128 →
      (Record.plateDone slot tag done failed).words d =
        [word0 3 d slot.val 0, tag, counts done failed, 0, 0, 0, 0, 0]
      ∧ (Record.plateDismissed slot tag done failed).words d =
        [word0 4 d slot.val 0, tag, counts done failed, 0, 0, 0, 0, 0])
    ∧ (∀ (m : Master) line (cause : StaleCause) d,
      let number : BitVec 2 := match cause with
        | .pass => 1
        | .timeout => 2
        | .dismiss => 3
      (Record.staleRead m line cause).words d =
        [word0 5 d 0 0, 0#22 ++ number ++ 0#6 ++ BitVec.ofNat 2 m.val, BitVec.ofNat 32 line, 0, 0, 0, 0, 0]
      ∧ (Record.writeRefused m line).words d =
        [word0 6 d 0 0, 0#30 ++ BitVec.ofNat 2 m.val, BitVec.ofNat 32 line, 0, 0, 0, 0, 0])
    ∧ (∀ count d, (Record.strayCapture count).words d = [word0 7 d 0 0, BitVec.ofNat 32 count, 0, 0, 0, 0, 0, 0])
    ∧ (∀ level heat d, heat < 65536 → (Record.cutChange level heat).words d =
      [word0 8 d 0 0, 0#31 ++ BitVec.ofBool level, 0#16 ++ BitVec.ofNat 16 heat, 0, 0, 0, 0, 0])
    ∧ (∀ ax (pos : BitVec 24) d, (Record.encoderFault ax pos).words d =
      [word0 9 d 0 0, (match ax with
        | .x => 0
        | .y => 1), pos.signExtend 32, 0, 0, 0, 0, 0])
    ∧ (∀ line (source : Source) d, source ≠ .report → (Record.memoryFault line source).words d =
      [word0 10 d 0 0, BitVec.ofNat 32 line, (match source with
        | .upstream => 1
        | .merge => 2
        | .plan => 3
        | .report => 0), 0, 0, 0, 0, 0]))
  ∧ ∀ (kind detail : Nat) (code : Code), kind < 256 → detail < 256 →
    let number : BitVec 8 := match code with
      | .accepted => 0
      | .badKind => 1
      | .noStation => 2
      | .busy => 3
      | .badField => 4
      | .noRoom => 5
      | .overlap => 6
      | .wrongPlate => 7
      | .tileBusy => 8
      | .noHold => 9
      | .fetchFault => 10
    resultWord kind code detail = (1#1 ++ 0#7 ++ BitVec.ofNat 8 detail ++ number ++ BitVec.ofNat 8 kind : Word)

/-! ## Downstream -/

/-- R127: when the port can accept, a grant goes to a class with a request; with no request none is made, and the sign that
the port can accept stands (log entry 19), so that the first request that appears is granted in its step
(`Obligations.EffectsAreFollowedInTheirStep`). R128: in FIXED mode the grant goes to DRAIN at 12 or more occupied entries
when it has a request, else to the first of READ, DRAIN and FETCH that has one, and the rotation pointer is left alone.
R129: in ROTATE mode it goes to the first class with a request in the cyclic order READ, DRAIN, FETCH from the rotation
pointer, and the pointer moves to the class after it. -/
def Obligations.GrantsFollowTheMode : Prop :=
  (∀ s : State, s.arbMode = .fixed →
    let a : State := { s with down := { s.down with accept := false } }
    exec .arbiterGrant s = .next (finish (
      if 12 ≤ s.pwq.entries.length ∧ s.requests .drain = true then a.grant .drain
      else if s.requests .read = true then a.grant .read
      else if s.requests .drain = true then a.grant .drain
      else if s.requests .fetch = true then a.grant .fetch
      else { s with down := { s.down with accept := true } }))
    ∧ ∀ c, (s.grant c).down.rotation = s.down.rotation)
  ∧ ∀ (s : State) (c : ArbClass), s.arbMode = .rotate → s.down.rotation = c →
    let order : List ArbClass := match c with
      | .read => [.read, .drain, .fetch]
      | .drain => [.drain, .fetch, .read]
      | .fetch => [.fetch, .read, .drain]
    let after : ArbClass → ArbClass := fun
      | .read => .drain
      | .drain => .fetch
      | .fetch => .read
    exec .arbiterGrant s = .next (finish (match order.find? (s.requests ·) with
      | none => { s with down := { s.down with accept := true } }
      | some g => State.grant g { s with down := { s.down with accept := false, rotation := after g } }))

/-- R121, R124 to R126: which classes have a request, and what a grant to each issues: the oldest read with its master's
identifier; the write of the head entry, which becomes DRAINING; the line read of the slot being taken. -/
def Obligations.GrantIssuesOneTransaction : Prop :=
  ∀ s : State,
    (s.requests .read = true ↔ s.reads.ready ≠ [])
    ∧ (s.requests .drain = true ↔ s.pwq.entries ≠ [] ∧ ∀ e ∈ s.pwq.entries, e.state = .waiting)
    ∧ (s.requests .fetch = true ↔ ∃ line, s.down.fetch = .ready line)
    ∧ (∀ r rest, s.reads.ready = r :: rest → s.grant .read = { s with
        reads := { s.reads with ready := rest, out := s.reads.out ++ [r] }
        down := { s.down with issued := s.down.issued ++ [.read (.master r.master) r.addr.toNat r.beats] } })
    ∧ (∀ e rest, s.pwq.entries = e :: rest → s.grant .drain = { s with
        pwq := { s.pwq with entries := { e with state := .draining } :: rest }
        down := { s.down with issued := s.down.issued ++ [e.drainTxn] } })
    ∧ ∀ line k, s.down.fetch = .ready line → s.plan.take = some k → s.grant .fetch = { s with
        down := { s.down with
          fetch := .outstanding line
          issued := s.down.issued ++ [.read .fetch
            (s.straps.toNat * 1048576 + k.slot.val * 256 + 32 * line.val) 8] } }

/-- R116: a drain's write begins at the lowest word of the entry that holds an enabled byte and ends at the highest; each
beat carries the entry's enables, its enabled bytes, and 0 for the others (11.5). -/
def Obligations.DrainSpansTheEnabledWords : Prop :=
  ∀ (e : Entry) (lo hi : Nat), lo ≤ hi → hi < 8 →
    let used : Nat → Prop := fun i => ∃ j < 4, ∃ b, e.bytes[4 * i + j]? = some (some b)
    used lo → used hi → (∀ i, used i → lo ≤ i ∧ i ≤ hi) →
    ∃ beats, e.drainTxn = .write (e.line + 4 * lo) beats ∧ beats.length = hi - lo + 1
      ∧ ∀ (i : Nat) (b : Beat), beats[i]? = some b → ∀ j < 4,
        (b.be.getLsbD j = true ↔ ∃ x, e.bytes[4 * (lo + i) + j]? = some (some x))
        ∧ b.data.extractLsb' (8 * j) 8 = ((e.bytes[4 * (lo + i) + j]?).join).getD 0

/-- R30, R114, R117, R118, R188, R190, R191: an OK response to the drain in flight retires the head entry: it leaves every
snapshot, and reads whose snapshot is now empty become eligible in their order; a last-carrier reference to it becomes none;
a header of the current ring advances the drained produce index to the one it carries, also past a record line still queued
(the model's choice, log entry 30), with IRQ set again; and its fence is delivered after all
that. A FAULT response does the same once the fault is charged: to the tile's damaged flag, else to the DROPPED flag for a
report line, else by a MEMORY_FAULT record. -/
def Obligations.DrainRetires : Prop :=
  (∀ (s : State) (e : Entry) (rest : List Entry), s.pwq.entries = e :: rest → e.state = .draining →
      exec .drainRetireOk s = .next (finish (match e.fence with
        | none => s.withoutHead e rest
        | some t => (s.withoutHead e rest).deliverFence t)))
  ∧ (∀ (s : State) (e : Entry) (rest : List Entry), s.pwq.entries = e :: rest → e.state = .draining →
      ∃ charged : State,
        (∀ t, e.tileRef = some t → charged = { s with asm := { s.asm with
          tiles := s.asm.tiles.set t (s.asm.tiles[t].map fun x => { x with damaged := true }) } })
        ∧ (e.tileRef = none → e.source = .report →
          charged = { s with report := { s.report with dropped := true } })
        ∧ (e.tileRef = none → e.source ≠ .report → charged = s.offer (.memoryFault e.line e.source))
        ∧ ∃ t, exec .drainRetireFault s = .next t ∧ exec .drainRetireOk charged = .next t)

/-- R97, R99, R122, R132: the response to a master's outstanding read answers the master (OK or STALE as decided with the
data, FAULT with none) and clears its flag; nothing else changes. A response whose identifier matches no outstanding
transaction is ignored, whichever row brings it. -/
def Obligations.ResponsesFindTheirTransaction : Prop :=
  (∀ (s : State) (m : Master) (data : List Word) (r : PortRead) (a b : List PortRead),
      s.reads.out = a ++ r :: b → r.master = m → (∀ x ∈ a ++ b, x.master ≠ m) →
      let u : State := { s with
        reads := { s.reads with out := a ++ b }
        port := { s.port with outstanding := s.port.outstanding.set m false } }
      exec (.upstreamReadResponse m .ok data) s =
        .next (finish (u.answeredOnly m (if r.stale = true then .stale else .ok) data))
      ∧ exec (.upstreamReadResponse m .fault data) s = .next (finish (u.answeredOnly m .fault [])))
  ∧ (∀ (s : State) (st : DownStatus) (data : List Word),
      (∀ m : Master, (∀ r ∈ s.reads.out, r.master ≠ m) →
        exec (.unmatchedResponse (.master m) st data) s = .next (finish s)
        ∧ exec (.upstreamReadResponse m st data) s = .next (finish s))
      ∧ ((∀ line, s.down.fetch ≠ .outstanding line) →
        exec (.unmatchedResponse .fetch st data) s = .next (finish s)
        ∧ exec (.fetchResponse st data) s = .next (finish s))
      ∧ ((∀ e ∈ s.pwq.entries.head?, e.state = .waiting) →
        exec (.unmatchedResponse .drain st data) s = .next (finish s)
        ∧ exec .drainRetireOk s = .next (finish s) ∧ exec .drainRetireFault s = .next (finish s)))

/-- R133, R172, R174, R175: the response to a line read of the slot being taken. After line 7 the kind decides the lines
that follow, or the take ends with BAD_KIND; after the last line the record is fetched, and processed in that step
(`Obligations.EffectsAreFollowedInTheirStep`). A FAULT, whatever words it brings (R122), ends the take with FETCH_FAULT and
the kind found, if any. -/
def Obligations.FetchResponseMovesTheTake : Prop :=
  ∀ (s : State) (k : Take) (line : Fin 8) (data : List Word), s.down.fetch = .outstanding line →
    s.plan.take = some k →
    let post := data.getD 7 0
    let a : State := { s with down := { s.down with fetch := .idle } }
    let body := k.body ++ data
    let read : Take → Fin 8 → State := fun k l => { s with
      plan := { s.plan with take := some k }
      down := { s.down with fetch := s.presented k.slot l } }
    (exec (.fetchResponse .fault data) s =
      .next (finish (a.withResult k (resultWord ((k.post.getD 0).toNat % 256) .fetchFault 0))))
    ∧ (data.length = 8 → line = 7 → kindOf post ≠ none →
      exec (.fetchResponse .ok data) s = .next (finish (read { k with post := some post } 0)))
    ∧ (data.length = 8 → line = 7 → kindOf post = none → exec (.fetchResponse .ok data) s =
      .next (finish (a.withResult { k with post := some post } (resultWord (post.toNat % 256) .badKind 0))))
    ∧ ∀ kind, data.length = 8 → k.kind = some kind → line ≠ 7 →
      (line.val + 1 < kind.lines → exec (.fetchResponse .ok data) s =
        .next (finish (read { k with body := body } (line + 1))))
      ∧ (kind.lines ≤ line.val + 1 → exec (.fetchResponse .ok data) s = .next (finish { a with
        plan := { s.plan with take := some { k with body := body, step := .fetched } } }))

/-! ## Plan records (chapter 9) -/

/-- R196, Tables 11-2 and 9-4, R177: the fields of a STATION record, the checks in the order of Table 9-4 with the word
index that each names, and the three areas that must be pairwise apart: capture window, report area, plan area. -/
def Obligations.StationFieldsAndChecks : Prop :=
  (∀ ws : List Word,
    let w : Nat → Word := fun n => (ws[n]?).getD 0
    let field : Nat → Nat → Nat → Nat := fun n lo len => ((w n).extractLsb' lo len).toNat
    stationOf ws = {
      divisor := (w 0).toNat, captureMaster := Fin.ofNat 4 (w 1).toNat, windowBase := (w 2).toNat
      windowLength := (w 3).toNat, reportBase := (w 4).toNat, capacity := (w 5).toNat
      mode := if w 6 = 0 then .fixed else .rotate, prescale := (w 7).toNat
      pwmPeriod := field 8 0 16, idleDuty := field 8 16 16
      idleTime := field 9 0 8, decay := field 9 8 8, pulse := field 9 16 8, filterDepth := field 9 24 8
      warmHigh := field 10 0 16, warmLow := field 10 16 16, settleTime := field 11 0 16, dwell := field 11 16 16
      expTimeout := field 12 0 16, holdTimeout := field 12 16 16 }
    ∧ firstFailing (stationChecks ws) = (([
      (decide (25 ≤ (w 0).toNat ∧ (w 0).toNat ≤ 133), 0),
      (decide ((w 1).toNat ≤ 3), 1),
      (decide ((w 2).toNat % 32 = 0), 2),
      (decide ((w 3).toNat % 32 = 0 ∧ 32 ≤ (w 3).toNat ∧ (w 3).toNat ≤ 16777216
        ∧ (w 2).toNat + (w 3).toNat ≤ 4294967296), 3),
      (decide ((w 4).toNat % 32 = 0), 4),
      (decide ((w 5).toNat ∈ [16, 32, 64, 128, 256, 512, 1024]
        ∧ (w 4).toNat + 32 + 32 * (w 5).toNat ≤ 4294967296), 5),
      (decide ((w 6).toNat ≤ 1), 6),
      (decide (1 ≤ (w 7).toNat ∧ (w 7).toNat ≤ 256), 7),
      (decide (16 ≤ field 8 0 16 ∧ field 8 0 16 ≤ 1023), 8),
      (decide (field 8 16 16 ≤ 1023), 8),
      (decide (field 9 0 8 ≤ 255), 9),
      (decide (4 ≤ field 9 8 8 ∧ field 9 8 8 ≤ 12), 9),
      (decide (1 ≤ field 10 0 16), 10),
      (decide (field 10 16 16 < field 10 0 16), 10),
      (decide (field 11 0 16 ≤ 65535), 11),
      (decide (1 ≤ field 9 16 8), 9),
      (decide (1 ≤ field 12 0 16), 12),
      (decide (1 ≤ field 12 16 16), 12),
      (decide (field 11 16 16 ≤ 65535), 11),
      (decide (1 ≤ field 9 24 8 ∧ field 9 24 8 ≤ 64), 9)] : List (Bool × Nat)).find? (!·.1)).map (·.2))
  ∧ ∀ (s : State) (st : Station),
    let apart : Nat → Nat → Nat → Nat → Prop := fun a m b n => a + m ≤ b ∨ b + n ≤ a
    s.stationApart st = true ↔
      apart st.windowBase st.windowLength st.reportBase (32 + 32 * st.capacity)
      ∧ apart st.windowBase st.windowLength (s.straps.toNat * 1048576) 8192
      ∧ apart st.reportBase (32 + 32 * st.capacity) (s.straps.toNat * 1048576) 8192

/-- R175, R177, R179 to R181: a fetched STATION, PLATE or RETAKE record that fails a check changes nothing but its take, which
ends with the result of the first check that fails, in the order of the rules, and the word index of a BAD_FIELD. -/
def Obligations.RefusedRecordsChangeNothing : Prop :=
  (∀ (s : State) (k : Take), s.fetched .station = some k →
      let st := stationOf k.body
      let ends : Code → Nat → Host.Outcome State Fault Refusal := fun code detail =>
        .next (finish (s.withResult k (resultWord 1 code detail)))
      (∀ i, firstFailing (stationChecks k.body) = some i → exec .station s = ends .badField i)
      ∧ (firstFailing (stationChecks k.body) = none →
        (s.stationApart st = false → exec .station s = ends .overlap 0)
        ∧ (s.stationApart st = true →
          ((∃ (p : SlotNo) (x : Plate), s.asm.plates[p] = some x) ∨ s.report.queue ≠ []) →
          exec .station s = ends .busy 0)))
  ∧ (∀ (s : State) (k : Take), s.fetched .plate = some k →
      let g := geometryOf k.body
      let ends : Code → Nat → Host.Outcome State Fault Refusal := fun code detail =>
        .next (finish (s.withResult k (resultWord 2 code detail)))
      (s.plan.station = none → exec .plate s = ends .noStation 0)
      ∧ ∀ st, s.plan.station = some st →
        (∀ i, firstFailing (plateChecks k.body) = some i → exec .plate s = ends .badField i)
        ∧ (firstFailing (plateChecks k.body) = none →
          (s.plateApart st (recordPlate k.body) = false → exec .plate s = ends .overlap 0)
          ∧ (s.plateApart st (recordPlate k.body) = true →
            (s.freeSlots = [] ∨ s.freeTiles.length < g.tiles ∨ s.freeHolds.length < g.rows) →
            exec .plate s = ends .noRoom 0)))
  ∧ (∀ (s : State) (k : Take), s.fetched .retake = some k →
      let ends : Code → Nat → Host.Outcome State Fault Refusal := fun code detail =>
        .next (finish (s.withResult k (resultWord 3 code detail)))
      let index := (wordAt k.body 2).toNat
      (s.plan.station = none → exec .retake s = ends .noStation 0)
      ∧ (s.plan.station.isSome = true →
        (4 ≤ (wordAt k.body 0).toNat → exec .retake s = ends .badField 0)
        ∧ ∀ p : SlotNo, p.val = (wordAt k.body 0).toNat →
          (s.namedPlate p (wordAt k.body 1) = none → exec .retake s = ends .wrongPlate 0)
          ∧ ∀ plate, s.namedPlate p (wordAt k.body 1) = some plate →
            (plate.tiles.length ≤ index → exec .retake s = ends .badField 2)
            ∧ ∀ t tile, plate.tiles[index]? = some t → s.asm.tiles[t] = some tile →
              (tile.final = false → exec .retake s = ends .tileBusy 0)
              ∧ (tile.final = true → plate.bandHold tile.row = none → s.freeHolds = [] →
                exec .retake s = ends .noHold 0)))

/-- R102, R135, R142, R143, R157, R178, R190, R193: acceptance of a STATION record, with the sequencer IDLE (R50): the
settings are stored, the ticks restart, the indices are 0 and IRQ low, header writes of the old ring no longer count, the
new header line is ready, the dwell and the idle timer restart, the zone is judged again, the captured-master flag is formed
again, the filters whose run count is at the new depth complete, and the take ends ACCEPTED. Nothing else changes. The
model's choices: the order of those filters (log entry 2), that they complete last (log entry 15), and what their edges
offer (log entries 26 and 27). -/
def Obligations.StationRecordIsAccepted : Prop :=
  ∀ (s : State) (k : Take), s.fetched .station = some k → firstFailing (stationChecks k.body) = none →
    let st := stationOf k.body
    s.stationApart st = true → (∀ p : SlotNo, s.asm.plates[p] = none) → s.report.queue = [] → s.seq.current = none →
    let old : ReadyLine → ReadyLine := fun
      | .header b p _ => .header b p false
      | l => l
    let a : State := { s with
      plan := { s.plan with station := some st }
      clock := { s.clock with us := 0, ms := 0, lampDiv := 0 }
      stage := { s.stage with watched := none, dwell := if st.dwell = 0 then none else some 0 }
      seq := { s.seq with captureHeld := s.port.held.any (·.req.master == st.captureMaster) }
      pwq := { s.pwq with entries := s.pwq.entries.map fun e => { e with header := none } }
      report := { s.report with
        produce := 0, drained := 0, consume := 0, irq := false
        ready := s.report.ready.map old ++ [.newHeader st.reportBase] }
      lamp := { s.lamp with
        period := if s.lamp.on = true then s.lamp.period else st.pwmPeriod
        idleTimer := 0
        zone := zoneNow st s.lamp.zone s.lamp.heat } }
    ∃ edges : List Instr, edges.Perm (s.stage.dueEvents st.filterDepth)
      ∧ exec .station s = .next (finish (State.withResult
        (edges.foldl (fun v c => refresh (effect c v)) (a.draw edges.length)) k (resultWord 1 .accepted 0)))

/-- R28, R29, R77: an accepted PLATE record takes the lowest FREE slot; its tiles take the lowest FREE entries in rising
order of tile index, and its bands the lowest FREE holds in band order; the result word names the slot. Entries and holds
that were not FREE stay as they were. -/
def Obligations.PlateRecordIsAccepted : Prop :=
  ∀ (s : State) (k : Take) (st : Station) (p : SlotNo) (more : List SlotNo), s.fetched .plate = some k →
    s.plan.station = some st → firstFailing (plateChecks k.body) = none →
    s.plateApart st (recordPlate k.body) = true → s.freeSlots = p :: more →
    let g := geometryOf k.body
    let plate := plateOf k.body ((s.freeHolds.take g.rows).map some) (s.freeTiles.take g.tiles)
    g.tiles ≤ s.freeTiles.length → g.rows ≤ s.freeHolds.length →
    ∃ asm hold, exec .plate s = .next (finish (State.withResult { s with asm := asm, hold := hold } k
        (resultWord 2 .accepted p.val)))
      ∧ asm.plates = s.asm.plates.set p (some plate)
      ∧ (∀ (i : Nat) (t : TileNo), plate.tiles[i]? = some t → asm.tiles[t] = some
        { slot := p, index := i, row := i / g.cols, col := i % g.cols, state := .pending, expIndex := 0, retries := 0
          heatWaits := 0, stats := [], skipped := false, damaged := false, reservation := 0 })
      ∧ (∀ t : TileNo, t ∉ plate.tiles → asm.tiles[t] = s.asm.tiles[t])
      ∧ (∀ (b : Nat) (h : HoldNo), plate.bandHold b = some h → hold.pool[h] = some
        { slot := p, base := g.imageBase + b * (g.keptHeight * g.pitch), size := g.keptHeight * g.pitch
          policy := plate.policy })
      ∧ (∀ h : HoldNo, (∀ b, plate.bandHold b ≠ some h) → hold.pool[h] = s.hold.pool[h])
      ∧ hold.queue = s.hold.queue

/-- R8, R196, Tables 11-3 and 1-4, R179: where the fields of a PLATE record stand; the field checks in their order, with the
word index that each names; a record that passes its field checks has
every field in range, on exact sums, its positions as signed 24-bit values; and the areas that its image and proof areas
must stay apart from: each other, those of every resident plate, the capture window, the plan area, the report area. -/
def Obligations.AcceptedPlateFieldsAreInRange : Prop :=
  (∀ ws : List Word,
    let w : Nat → Word := fun n => (ws[n]?).getD 0
    let plate := recordPlate ws
    plate.tag = w 0
    ∧ plate.geo = { rows := (w 1).toNat, cols := (w 2).toNat, width := (w 3).toNat, height := (w 4).toNat
                    top := (w 5).toNat, bottom := (w 6).toNat, left := (w 7).toNat, right := (w 8).toNat
                    imageBase := (w 9).toNat, pitch := (w 10).toNat }
    ∧ geometryOf ws = plate.geo
    ∧ plate.proofBase = (if w 11 = 0 then none else some (w 11).toNat)
    ∧ plate.bracket.length = (w 12).toNat
    ∧ (∀ e < (w 12).toNat, plate.bracket[e]? = some
      { duty := ((w (13 + 2 * e)).extractLsb' 0 16).toNat, step := ((w (13 + 2 * e)).extractLsb' 16 16).toNat
        clip := ((w (14 + 2 * e)).extractLsb' 0 16).toNat, floor := ((w (14 + 2 * e)).extractLsb' 16 16).toNat })
    ∧ plate.tolerance = (w 25).toNat ∧ plate.retryLimit = (w 26).toNat
    ∧ plate.policy = (if w 27 = 0 then .wait else .pass)
    ∧ (firstFailing (plateChecks ws) = none →
      (∀ n ∈ [21, 22, 23, 24], -8388608 ≤ (w n).toInt ∧ (w n).toInt ≤ 8388607) ∧ (w 27).toNat ≤ 1
      ∧ plate.originX.toInt = (w 21).toInt ∧ plate.originY.toInt = (w 22).toInt
      ∧ plate.pitchX.toInt = (w 23).toInt ∧ plate.pitchY.toInt = (w 24).toInt))
  ∧ (∀ ws : List Word,
    let w : Nat → Word := fun n => (ws[n]?).getD 0
    let v : Nat → Nat := fun n => (w n).toNat
    let half : Nat → Nat → Nat := fun n lo => ((w n).extractLsb' lo 16).toNat
    let rows := v 1
    let cols := v 2
    let width := v 3
    let height := v 4
    let kept := width - v 7 - v 8
    let imageArea := rows * (height - v 5 - v 6) * v 10
    let proofArea := rows * cols * (width * height * 2)
    let exposure : Nat → List (Bool × Nat) := fun e => [
      (decide (half (13 + 2 * e) 0 ≤ 1023), 13 + 2 * e),
      (decide (half (13 + 2 * e) 16 ≤ 4), 13 + 2 * e),
      (decide (e = 0 ∨ half (11 + 2 * e) 16 < half (13 + 2 * e) 16), 13 + 2 * e),
      (decide (1 ≤ half (14 + 2 * e) 0 ∧ half (14 + 2 * e) 0 ≤ 4095), 14 + 2 * e),
      (decide (half (14 + 2 * e) 16 < half (14 + 2 * e) 0), 14 + 2 * e)]
    let signed : Nat → Bool × Nat := fun n => (decide (-8388608 ≤ (w n).toInt ∧ (w n).toInt ≤ 8388607), n)
    firstFailing (plateChecks ws) = ((([
      (decide (1 ≤ rows ∧ rows ≤ 8), 1),
      (decide (1 ≤ cols ∧ cols ≤ 8), 2),
      (decide (16 ≤ width ∧ width ≤ 4096 ∧ width % 16 = 0), 3),
      (decide (16 ≤ height ∧ height ≤ 4096), 4),
      (decide (v 5 + v 6 + 1 ≤ height), 6),
      (decide (v 7 % 16 = 0), 7),
      (decide (v 8 % 16 = 0), 8),
      (decide (v 7 + v 8 + 16 ≤ width), 8),
      (decide (v 9 % 32 = 0), 9),
      (decide (v 10 % 32 = 0 ∧ cols * kept * 2 ≤ v 10), 10),
      (decide (v 9 + imageArea ≤ 4294967296), 9),
      (decide (v 11 % 32 = 0), 11),
      (decide (v 11 = 0 ∨ v 11 + proofArea ≤ 4294967296), 11),
      (decide (1 ≤ v 12 ∧ v 12 ≤ 4), 12)] : List (Bool × Nat))
      ++ (List.range (min (v 12) 4)).flatMap exposure
      ++ [signed 21, signed 22, signed 23, signed 24, (decide (v 25 ≤ 255), 25), (decide (v 26 ≤ 3), 26),
        (decide (v 27 ≤ 1), 27)]).find? (!·.1)).map (·.2))
  ∧ (∀ (s : State) (st : Station) (plate : Plate),
    let apart : Nat × Nat → Nat × Nat → Prop := fun a b => a.1 + a.2 ≤ b.1 ∨ b.1 + b.2 ≤ a.1
    let areas : Plate → List (Nat × Nat) := fun x =>
      (x.geo.imageBase, x.geo.rows * (x.geo.height - x.geo.top - x.geo.bottom) * x.geo.pitch)
        :: (match x.proofBase with
          | none => []
          | some b => [(b, x.geo.rows * x.geo.cols * (x.geo.width * x.geo.height * 2))])
    s.plateApart st plate = true ↔
      (areas plate).Pairwise apart
      ∧ ∀ a ∈ areas plate,
        (∀ (p : SlotNo) (other : Plate), s.asm.plates[p] = some other → ∀ b ∈ areas other, apart a b)
        ∧ apart a (st.windowBase, st.windowLength) ∧ apart a (s.straps.toNat * 1048576, 8192)
        ∧ apart a (st.reportBase, 32 + 32 * st.capacity))
  ∧ ∀ ws : List Word, firstFailing (plateChecks ws) = none →
    let g := geometryOf ws
    let plate := recordPlate ws
    1 ≤ g.rows ∧ g.rows ≤ 8 ∧ 1 ≤ g.cols ∧ g.cols ≤ 8
    ∧ 16 ≤ g.width ∧ g.width ≤ 4096 ∧ g.width % 16 = 0 ∧ 16 ≤ g.height ∧ g.height ≤ 4096
    ∧ g.top + g.bottom < g.height ∧ g.left % 16 = 0 ∧ g.right % 16 = 0 ∧ g.left + g.right + 16 ≤ g.width
    ∧ g.imageBase % 32 = 0 ∧ g.pitch % 32 = 0 ∧ g.cols * (g.width - g.left - g.right) * 2 ≤ g.pitch
    ∧ g.imageBase + g.rows * (g.height - g.top - g.bottom) * g.pitch ≤ 2 ^ 32
    ∧ (∀ b, plate.proofBase = some b → b % 32 = 0 ∧ b + g.rows * g.cols * (g.width * g.height * 2) ≤ 2 ^ 32)
    ∧ 1 ≤ plate.bracket.length ∧ plate.bracket.length ≤ 4
    ∧ (∀ x ∈ plate.bracket, x.duty ≤ 1023 ∧ x.step ≤ 4 ∧ 1 ≤ x.clip ∧ x.clip ≤ 4095 ∧ x.floor < x.clip)
    ∧ (plate.bracket.map (·.step)).Pairwise (· < ·)
    ∧ plate.tolerance ≤ 255 ∧ plate.retryLimit ≤ 3

/-- R42, R43, R78: an accepted RETAKE returns the tile to PENDING with its record cleared and its count lowered, the plate
is ASSEMBLING, and a band without a hold takes the lowest FREE hold. Nothing else changes. -/
def Obligations.RetakeRecordIsAccepted : Prop :=
  ∀ (s : State) (k : Take) (p : SlotNo) (plate : Plate) (t : TileNo) (tile : Tile), s.fetched .retake = some k →
    s.plan.station.isSome = true → p.val = (wordAt k.body 0).toNat →
    s.namedPlate p (wordAt k.body 1) = some plate → plate.tiles[(wordAt k.body 2).toNat]? = some t →
    s.asm.tiles[t] = some tile → tile.final = true →
    let x : Tile := { tile with
      state := .pending, expIndex := 0, retries := 0, heatWaits := 0, stats := [], skipped := false, damaged := false }
    let counted : Plate := { plate with
      state := .assembling
      tilesDone := if tile.state = .done then plate.tilesDone - 1 else plate.tilesDone
      tilesFailed := if tile.state = .done then plate.tilesFailed else plate.tilesFailed - 1 }
    let tiles := s.asm.tiles.set t (some x)
    (∀ h, plate.bandHold tile.row = some h → exec .retake s = .next (finish (State.withResult
      { s with asm := { plates := s.asm.plates.set p (some counted), tiles := tiles } } k (resultWord 3 .accepted 0))))
    ∧ ∀ h more, plate.bandHold tile.row = none → s.freeHolds = h :: more →
      let closed : Plate := { counted with bandHolds := plate.bandHolds.set tile.row (some h) }
      exec .retake s = .next (finish (State.withResult { s with
        asm := { plates := s.asm.plates.set p (some closed), tiles := tiles }
        hold := { s.hold with pool := s.hold.pool.set h (some (holdFor p plate tile.row)) } } k
          (resultWord 3 .accepted 0)))

/-- R175, R182: a fetched DISMISS record is refused with NO_STATION, BAD_FIELD or WRONG_PLATE, or waits for a Report Queue
place. R45, R183, R31: a waiting DISMISS of a COMPLETE plate that finds a place frees the plate in that step:
PLATE_DISMISSED with its tag and counts takes the place, its tile entries and its slot are FREE, and PWQ references to its
tiles clear. -/
def Obligations.DismissWaitsAndFreesACompletePlate : Prop :=
  (∀ (s : State) (k : Take), s.fetched .dismiss = some k →
      let ends : Code → Nat → Host.Outcome State Fault Refusal := fun code detail =>
        .next (finish (s.withResult k (resultWord 4 code detail)))
      (s.plan.station = none → exec .dismiss s = ends .noStation 0)
      ∧ (s.plan.station.isSome = true →
        (4 ≤ (wordAt k.body 0).toNat → exec .dismiss s = ends .badField 0)
        ∧ ∀ p : SlotNo, p.val = (wordAt k.body 0).toNat →
          (s.namedPlate p (wordAt k.body 1) = none → exec .dismiss s = ends .wrongPlate 0)
          ∧ ((s.namedPlate p (wordAt k.body 1)).isSome = true → exec .dismiss s = .next (finish { s with
            plan := { s.plan with take := some { k with step := .waitingReservation } } }))))
  ∧ ∀ (s : State) (k : Take) (p : SlotNo) (plate : Plate), s.plan.take = some k → k.step = .waitingReservation →
      p.val = (wordAt k.body 0).toNat → s.asm.plates[p] = some plate → plate.state = .complete →
      s.report.queue.length + s.report.reserved < 16 →
      ∃ tiles, exec .dismissReservation s = .next (finish (State.withResult { s with
          asm := { plates := s.asm.plates.set p none, tiles := tiles }
          pwq := { s.pwq with entries := s.pwq.entries.map fun e =>
            if ∃ t, e.tileRef = some t ∧ t ∈ plate.tiles then { e with tileRef := none } else e }
          report := { s.report with
            queue := s.report.queue ++ [.plateDismissed p plate.tag plate.tilesDone plate.tilesFailed] } } k
          (resultWord k.kindField .accepted 0)))
        ∧ (∀ t ∈ plate.tiles, tiles[t] = none) ∧ ∀ t : TileNo, t ∉ plate.tiles → tiles[t] = s.asm.tiles[t]

/-- R46, R47, R73, R81: a waiting DISMISS of an ASSEMBLING plate that finds a place. Its tile in the sequencer leaves it with
outcome DISCARDED, the fence on the last carrier as it stood, or, with no carrier, back in PENDING at once. Its tiles give up
their places; its holds are FREE, and the reads that wait on them are sent on in queue order, to be answered STALE, each with
STALE_READ cause DISMISS offered. With no tile CLOSING the plate is FREE, its slot and tile entries with it, and
PLATE_DISMISSED is queued; otherwise it is DISMISSING with the counts of the take, and its CLOSING tiles are DISCARDED. -/
def Obligations.DismissDiscardsAnAssemblingPlate : Prop :=
  ∀ (s : State) (k : Take) (p : SlotNo) (plate : Plate), AssemblyLaw s → HoldLaw s → s.plan.take = some k →
    k.step = .waitingReservation → p.val = (wordAt k.body 0).toNat → s.asm.plates[p] = some plate →
    plate.state = .assembling → s.report.queue.length + s.report.reserved < 16 →
    let current := ∃ t tile, s.seq.current = some t ∧ s.asm.tiles[t] = some tile ∧ tile.slot = p
    let closing := (∃ t ∈ plate.tiles, s.tileIs Tile.isClosing t = true) ∨ (current ∧ s.merge.lastCarrier.isSome = true)
    let held := fun r : HeldRead => decide (some r.hold ∈ plate.bandHolds)
    let places := (plate.tiles.map fun t => (s.asm.tiles[t].map (·.reservation)).getD 0).sum
    let sent : State := (s.hold.queue.filter held).foldl
      (fun v r => (v.forward { master := r.master, addr := r.addr, beats := r.beats, stale := true }).offer
        (.staleRead r.master (r.addr.toNat / 32 * 32) .dismiss))
      { s with report := { s.report with reserved := s.report.reserved + 1 - places } }
    ∃ u, exec .dismissReservation s = .next (finish u)
      ∧ u.plan = { s.plan with take := some { k with step := .finished (resultWord k.kindField .accepted 0) } }
      ∧ u.down = { s.down with fetch := .idle }
      ∧ (current → u.seq = { s.seq with
          current := none, settleTimer := none, deferred := false, expTimer := none, moveok := true }
        ∧ u.merge = { s.merge with frame := .closed, lastCarrier := none }
        ∧ u.stage = { s.stage with watched := none })
      ∧ (¬current → u.seq = s.seq ∧ u.merge = s.merge ∧ u.stage = s.stage)
      ∧ (∀ h : HoldNo, u.hold.pool[h] = if some h ∈ plate.bandHolds then none else s.hold.pool[h])
      ∧ u.hold.queue = s.hold.queue.filter (fun r => !held r)
      ∧ u.reads = sent.reads
      ∧ u.lamp = s.lamp ∧ u.port = s.port ∧ u.clock = s.clock
      ∧ (∀ q : SlotNo, q ≠ p → u.asm.plates[q] = s.asm.plates[q])
      ∧ (∀ t : TileNo, t ∉ plate.tiles → u.asm.tiles[t] = s.asm.tiles[t])
      ∧ (¬closing → u.asm.plates[p] = none ∧ (∀ t ∈ plate.tiles, u.asm.tiles[t] = none)
        ∧ u.report = { sent.report with
          queue := sent.report.queue ++ [.plateDismissed p plate.tag plate.tilesDone plate.tilesFailed]
          reserved := sent.report.reserved - 1 }
        ∧ u.pwq = { s.pwq with entries := s.pwq.entries.map fun e =>
          if ∃ t, e.tileRef = some t ∧ t ∈ plate.tiles then { e with tileRef := none } else e })
      ∧ (closing → u.asm.plates[p] = some { plate with
          state := .dismissing plate.tilesDone plate.tilesFailed, dismissReserved := true
          bandHolds := plate.bandHolds.map fun _ => none }
        ∧ u.report = sent.report
        ∧ (∀ t ∈ plate.tiles, ∀ tile, s.asm.tiles[t] = some tile → u.asm.tiles[t] = some (
          if s.seq.current = some t then
            if s.merge.lastCarrier.isSome = true then { tile with state := .closing .discarded none, reservation := 0 }
            else { tile with
              state := .pending, expIndex := 0, stats := [], skipped := false, reservation := 0 }
          else match tile.state with
            | .closing _ heat => { tile with state := .closing .discarded heat, reservation := 0 }
            | _ => { tile with reservation := 0 }))
        ∧ (∀ t id, s.seq.current = some t → current → s.merge.lastCarrier = some id →
          u.pwq = { s.pwq with
            entries := s.pwq.entries.map fun e => if e.id = id then { e with fence := some t } else e })
        ∧ (¬current ∨ s.merge.lastCarrier = none → u.pwq = s.pwq))

/-! ## Fences and finals (chapter 2) -/

/-- R32 to R34, R36 to R40, R47: the delivery of the fence of a CLOSING tile of an ASSEMBLING plate, with outcome DONE or
FAILED: the tile is final with no places held, its plate's count rises, its band is released when it was the row's last, with
the reads waiting on it sent on in queue order, to be answered OK (R80), its record takes one place, and PLATE_DONE the
other when it was the plate's last. With outcome DISCARDED the tile is PENDING again and no record is queued about it; it
frees a DISMISSING plate whose last CLOSING tile it was, with PLATE_DISMISSED carrying the counts of the take and the PWQ references to the plate's tiles cleared (R31). The plate's other fields stay. -/
def Obligations.FenceDeliveryEndsTheTile : Prop :=
  (∀ (s : State) (t : TileNo) (tile : Tile) (plate : Plate) (o : ClosingOutcome) (heat : Option Nat),
      s.asm.tiles[t] = some tile → tile.state = .closing o heat → o ≠ .discarded →
      s.asm.plates[tile.slot] = some plate → plate.state = .assembling →
      let final : TileState := match o with
        | .failed r => .failed r
        | _ => if tile.damaged = true then .failed .memory else .done
      let record : Record := match final with
        | .failed r => .tileFault tile.slot tile.index plate.tag tile.expIndex r tile.retries true
        | _ => .tileDone tile.slot tile.index plate.tag tile.stats.length tile.skipped tile.retries tile.heatWaits
          tile.stats (heat.getD 0)
      let done := if final = .done then plate.tilesDone + 1 else plate.tilesDone
      let failed := if final = .done then plate.tilesFailed else plate.tilesFailed + 1
      let banded := ∀ x ∈ plate.rowTiles tile.row, x = t ∨ s.tileIs Tile.final x = true
      let u := s.deliverFence t
      u.asm.tiles = s.asm.tiles.set t (some { tile with state := final, reservation := 0 })
      ∧ u.asm.plates = s.asm.plates.set tile.slot (some { plate with
        tilesDone := done, tilesFailed := failed
        state := if done + failed = plate.geo.tiles then .complete else .assembling
        bandHolds := if banded then plate.bandHolds.set tile.row none else plate.bandHolds })
      ∧ u.report.queue = s.report.queue ++ [record]
        ++ (if done + failed = plate.geo.tiles then [.plateDone tile.slot plate.tag done failed] else [])
      ∧ u.report.reserved = s.report.reserved - 2
      ∧ (∀ h, plate.bandHold tile.row = some h → banded →
        u.hold.pool = s.hold.pool.set h none ∧ u.hold.queue = s.hold.queue.filter (·.hold != h)
        ∧ u.reads = ((s.hold.queue.filter (·.hold == h)).foldl (fun v r =>
          v.forward { master := r.master, addr := r.addr, beats := r.beats, stale := false }) s).reads)
      ∧ (¬banded ∨ plate.bandHold tile.row = none → u.hold = s.hold ∧ u.reads = s.reads)
      ∧ u.seq = s.seq ∧ u.pwq = s.pwq ∧ u.merge = s.merge ∧ u.lamp = s.lamp ∧ u.stage = s.stage ∧ u.port = s.port)
  ∧ (∀ (s : State) (t : TileNo) (tile : Tile) (plate : Plate) (heat : Option Nat), s.asm.tiles[t] = some tile →
      tile.state = .closing .discarded heat → s.asm.plates[tile.slot] = some plate →
      let last := ∀ x ∈ plate.tiles, x = t ∨ s.tileIs Tile.isClosing x = false
      let u := s.deliverFence t
      ((∀ d f, plate.state ≠ .dismissing d f) ∨ ¬last → u = { s with asm := { s.asm with
        tiles := s.asm.tiles.set t (some { tile with state := .pending, expIndex := 0, stats := [], skipped := false }) } })
      ∧ ∀ d f, plate.state = .dismissing d f → last →
        u.asm.plates = s.asm.plates.set tile.slot none ∧ (∀ x ∈ plate.tiles, u.asm.tiles[x] = none)
        ∧ (∀ x : TileNo, x ∉ plate.tiles → x ≠ t → u.asm.tiles[x] = s.asm.tiles[x])
        ∧ u.report.queue = s.report.queue ++ [.plateDismissed tile.slot plate.tag d f]
        ∧ u.report.reserved = s.report.reserved - 1
        ∧ u.pwq = { s.pwq with entries := s.pwq.entries.map fun e =>
          if ∃ x, e.tileRef = some x ∧ x ∈ plate.tiles then { e with tileRef := none } else e }
        ∧ u.hold = s.hold ∧ u.reads = s.reads ∧ u.seq = s.seq ∧ u.merge = s.merge ∧ u.lamp = s.lamp ∧ u.stage = s.stage
        ∧ u.port = s.port)

/-! ## Bracket Sequencer (chapter 3) -/

/-- R52 to R56, R13: while IDLE with every condition met, the tile chosen is the first that qualifies by slot and then by
tile index, and with the lamp ON it is ARMED for exposure 0: two places reserved, MOVEOK low, the frame CLOSED, the last
carrier found, the watched target set, a stray count offered, the idle timer 0. A tile qualifies when it is PENDING and its
target within tolerance on both axes, on the difference modulo 2^24 taken as signed. With a condition of R53 missing, no
tile is armed and nothing is recorded. -/
def Obligations.ArmingTakesTheChosenTile : Prop :=
  (∀ (s : State) (st : Station) (p : SlotNo) (plate : Plate) (i : Nat) (t : TileNo) (tile : Tile),
      s.seq.current = none → s.plan.station = some st → s.stage.cut.level = false → s.stage.dwell = none →
      s.report.queue.length + s.report.reserved ≤ 14 →
      s.asm.plates[p] = some plate → plate.state = .assembling → plate.tiles[i]? = some t →
      s.asm.tiles[t] = some tile → s.qualifies plate t = true →
      (∀ j < i, ∀ x, plate.tiles[j]? = some x → s.qualifies plate x = false) →
      (∀ q < p, ∀ other, s.asm.plates[q] = some other → other.state = .assembling →
        ∀ x ∈ other.tiles, s.qualifies other x = false) →
      s.lamp.on = true →
      let armed : Tile := { tile with
        state := .armed, expIndex := 0, reservation := 2
        heatWaits := if s.lamp.zone = .warm then min 255 (tile.heatWaits + 1) else tile.heatWaits }
      let a : State := { s with
        asm := { s.asm with tiles := s.asm.tiles.set t (some armed) }
        seq := { s.seq with current := some t, moveok := false }
        merge := { s.merge with
          frame := .closed
          lastCarrier := ((s.pwq.entries.filter (·.tileRef == some t)).getLast?).map (·.id) }
        stage := { s.stage with watched := some ⟨plate.originX + BitVec.ofNat 24 tile.col * plate.pitchX,
          plate.originY + BitVec.ofNat 24 tile.row * plate.pitchY, plate.tolerance⟩ }
        report := { s.report with reserved := s.report.reserved + 2 }
        lamp := { s.lamp with idleTimer := 0 } }
      (s.merge.stray = 0 → exec .arming s = .next (finish a))
      ∧ (s.merge.stray ≠ 0 → exec .arming s = .next (finish
        { a.offer (.strayCapture s.merge.stray) with merge := { a.merge with stray := 0 } })))
  ∧ (∀ (s : State) (plate : Plate) (t : TileNo),
      s.qualifies plate t = true ↔ ∃ tile, s.asm.tiles[t] = some tile ∧ tile.state = .pending
        ∧ (s.stage.posX - (plate.originX + BitVec.ofNat 24 tile.col * plate.pitchX)).toInt.natAbs ≤ plate.tolerance
        ∧ (s.stage.posY - (plate.originY + BitVec.ofNat 24 tile.row * plate.pitchY)).toInt.natAbs ≤ plate.tolerance)
  ∧ (∀ s : State, (s.seq.current.isSome = true ∨ s.plan.station = none ∨ s.stage.cut.level = true
        ∨ s.stage.dwell.isSome = true ∨ 14 < s.report.queue.length + s.report.reserved
        ∨ ∀ (p : SlotNo) plate, s.asm.plates[p] = some plate → plate.state = .assembling →
          ∀ t ∈ plate.tiles, s.qualifies plate t = false) →
      exec .arming s = .next (finish s))

/-- R57, R59, R150, R155: an arming that finds the lamp OFF turns it ON: the request is applied at once and the period restarts;
with the zone COOL the tile passes to SETTLING in that step with its duty applied (with a settle time of 0, on to EXPOSING
unless TRIG is still high), with the zone WARM it stays ARMED under
the idle duty. -/
def Obligations.ArmingTurnsTheLampOn : Prop :=
  ∀ (s : State) (st : Station) (t : TileNo) (plate : Plate) (tile : Tile) (x : Exposure), s.mayArm = true →
    s.candidate = some (t, plate) → s.asm.plates[tile.slot] = some plate → s.asm.tiles[t] = some tile →
    s.plan.station = some st → s.lamp.on = false → plate.bracket[0]? = some x →
    let x0 : TileState → Tile := fun state => { tile with state := state, expIndex := 0, reservation := 2 }
    ∃ u, exec .arming s = .next (finish u) ∧ u.lamp.on = true ∧ u.lamp.counter = 0 ∧ u.lamp.period = st.pwmPeriod
      ∧ u.lamp.idleTimer = 0 ∧ u.seq.current = some t ∧ u.seq.moveok = false ∧ u.merge.stray = 0
      ∧ (s.lamp.zone = .cool → u.lamp.applied = x.duty
        ∧ (0 < st.settleTime → u.seq.settleTimer = some { value := 0, limit := st.settleTime }
          ∧ u.asm.tiles[t] = some (x0 .settling))
        ∧ (st.settleTime = 0 → s.seq.trig = false → u.seq.trig = true ∧ u.merge.frame = .opened
          ∧ u.asm.tiles[t] = some (x0 .exposing))
        ∧ (st.settleTime = 0 → s.seq.trig = true → u.seq.deferred = true ∧ u.asm.tiles[t] = some (x0 .settling)))
      ∧ (s.lamp.zone = .warm → u.lamp.applied = st.idleDuty ∧ u.seq.settleTimer = s.seq.settleTimer
        ∧ u.asm.tiles[t] = some { tile with
          state := .armed, expIndex := 0, reservation := 2, heatWaits := min 255 (tile.heatWaits + 1) })

/-- R57, R59, R148, R151, R154, R155: at a period end the applied duty takes the requested duty, the counter returns to 0 and the
next period has the station's length; with the zone COOL, the sequencer's tile ARMED and the request an exposure's, the tile
enters SETTLING, and with a settle time of 0 its exposure starts in that step, or is deferred while TRIG is high. While the
lamp is OFF no period end occurs. The idle timer's expiry with the sequencer IDLE turns the lamp
OFF, its counter and idle timer at 0 and the applied duty kept; with an idle time of 0, a lamp OFF or a tile in the
sequencer it does not come. -/
def Obligations.PeriodEndAndTurnOff : Prop :=
  (∀ s : State,
      let a : State := { s with lamp := { s.lamp with
        applied := s.lamp.requested, counter := 0, period := s.setting (·.pwmPeriod) } }
      (s.lamp.on = false → exec .periodEnd s = .next (finish s))
      ∧ (s.lamp.on = true → (s.lamp.zone = .warm ∨ s.lamp.fromTile = false
          ∨ ∀ t tile plate, s.currentTile = some (t, tile, plate) → tile.state ≠ .armed) →
        exec .periodEnd s = .next (finish a))
      ∧ ∀ t tile plate, s.lamp.on = true → s.lamp.zone = .cool → s.lamp.fromTile = true →
        s.currentTile = some (t, tile, plate) → tile.state = .armed →
        let settling := s.asm.tiles.set t (some { tile with state := .settling })
        (0 < s.setting (·.settleTime) → exec .periodEnd s = .next (finish { a with
          asm := { s.asm with tiles := settling }
          seq := { s.seq with settleTimer := some { value := 0, limit := s.setting (·.settleTime) } } }))
        ∧ (s.setting (·.settleTime) = 0 → s.seq.trig = false →
          exec .periodEnd s = .next (finish (a.exposing t tile)))
        ∧ (s.setting (·.settleTime) = 0 → s.seq.trig = true → exec .periodEnd s = .next (finish { a with
          asm := { s.asm with tiles := settling }
          seq := { s.seq with settleTimer := none, deferred := true } })))
  ∧ (∀ s : State,
      let due := ∃ st, s.plan.station = some st ∧ 0 < st.idleTime ∧ s.lamp.on = true ∧ s.seq.current = none
      (due → exec .idleTimerExpiry s = .next (finish { s with lamp := { s.lamp with
        on := false, counter := 0, idleTimer := 0 } }))
      ∧ (¬due → exec .idleTimerExpiry s = .next (finish s)))

/-- R10, R60, R61: the settle expiry of a SETTLING tile raises TRIG, starts the pulse and exposure timers, makes the tile
EXPOSING and opens its frame with counts at 0; with TRIG still high it is deferred. When the pulse ends, TRIG falls; a
deferred trigger then starts the exposure with a new rise of TRIG, and not while TRIG is high. R62, R69: the exposure
timer's expiry aborts the current tile with TIMEOUT; a stopped or suspended timer does not expire. -/
def Obligations.SettleTriggerAndExposureTimer : Prop :=
  (∀ (s : State) (t : TileNo) (tile : Tile) (plate : Plate), s.currentTile = some (t, tile, plate) →
      tile.state = .settling → s.seq.settleTimer.isSome = true →
      (s.seq.trig = false → exec .settleExpiry s = .next (finish (s.exposing t tile)))
      ∧ (s.seq.trig = true → exec .settleExpiry s = .next (finish { s with
        seq := { s.seq with settleTimer := none, deferred := true } })))
  ∧ ((∀ s : State, s.seq.pulseTimer.isSome = true → exec .triggerPulseEnd s =
      .next (finish { s with seq := { s.seq with trig := false, pulseTimer := none } }))
    ∧ (∀ s : State, s.seq.pulseTimer = none → exec .triggerPulseEnd s = .next (finish s))
    ∧ (∀ (s : State) (t : TileNo) (tile : Tile) (plate : Plate), s.currentTile = some (t, tile, plate) →
      tile.state = .settling → s.seq.deferred = true → s.seq.trig = false →
      exec .deferredTrigger s = .next (finish (s.exposing t tile)))
    ∧ ∀ s : State, s.seq.deferred = false ∨ s.seq.trig = true → exec .deferredTrigger s = .next (finish s))
  ∧ ∀ s : State,
      (s.seq.expTimer.isSome = true → s.seq.captureHeld = false →
        exec .exposureTimerExpiry s = .next (finish (s.abort .timeout)))
      ∧ (s.seq.expTimer = none ∨ s.seq.captureHeld = true → exec .exposureTimerExpiry s = .next (finish s))

/-- R22, R24, R65 to R67: an abort by HEAT or HOMED, or by MOTION, TIMEOUT or ENCODER with a retry left, returns the tile to
PENDING, its attempt cleared; a non-final TILE_FAULT with the exposure index at the abort takes one place and the other is
given up. With the retries exhausted the tile goes to CLOSING with outcome FAILED, its fence on the last carrier, or
delivered at once when there is none. Either way the sequencer is IDLE with MOVEOK high, the frame CLOSED and the watched
target none, TRIG as it was. With no current tile an abort does nothing. -/
def Obligations.AbortsFollowTheRetryCount : Prop :=
  (∀ (s : State) (r : Reason), r ≠ .memory →
      (s.currentTile = none → s.abort r = s)
      ∧ ∀ t tile plate, s.currentTile = some (t, tile, plate) →
        let counted := r = .motion ∨ r = .timeout ∨ r = .encoder
        let retries := if counted then tile.retries + 1 else tile.retries
        ¬counted ∨ tile.retries < plate.retryLimit →
        s.abort r = { s with
          asm := { s.asm with tiles := s.asm.tiles.set t (some { tile with
            state := .pending, expIndex := 0, stats := [], skipped := false, retries := retries, reservation := 0 }) }
          seq := { s.seq with current := none, settleTimer := none, deferred := false, expTimer := none, moveok := true }
          merge := { s.merge with frame := .closed, lastCarrier := none }
          stage := { s.stage with watched := none }
          report := { s.report with
            queue := s.report.queue ++ [.tileFault tile.slot tile.index plate.tag tile.expIndex r retries false]
            reserved := s.report.reserved - 2 } })
  ∧ (∀ (s : State) (r : Reason) (t : TileNo) (tile : Tile) (plate : Plate),
      r = .motion ∨ r = .timeout ∨ r = .encoder → s.currentTile = some (t, tile, plate) →
      plate.retryLimit ≤ tile.retries →
      let a : State := { s with
        asm := { s.asm with tiles := s.asm.tiles.set t (some { tile with state := .closing (.failed r) none }) }
        seq := { s.seq with current := none, settleTimer := none, deferred := false, expTimer := none, moveok := true }
        merge := { s.merge with frame := .closed, lastCarrier := none }
        stage := { s.stage with watched := none } }
      (∀ id, s.merge.lastCarrier = some id → s.abort r = { a with pwq := { s.pwq with
        entries := s.pwq.entries.map fun e => if e.id = id then { e with fence := some t } else e } })
      ∧ (s.merge.lastCarrier = none → s.abort r = a.deliverFence t))

/-! ## Hold Unit -/

/-- R87: the expiry of a queued read's hold timer takes the read out of the queue, sends it on STALE and offers STALE_READ
with cause TIMEOUT; the holds and the other reads stay. -/
def Obligations.HoldTimerExpirySendsTheReadStale : Prop :=
  ∀ (s : State) (m : Master) (r : HeldRead) (a b : List HeldRead), s.hold.queue = a ++ r :: b → r.master = m →
    (∀ x ∈ a ++ b, x.master ≠ m) →
    exec (.holdTimerExpiry m) s = .next (finish ((State.forward
      { master := m, addr := r.addr, beats := r.beats, stale := true }
      { s with hold := { s.hold with queue := a ++ b } }).offer
        (.staleRead m (r.addr.toNat / 32 * 32) .timeout)))

/-! ## Stage (chapter 7) -/

/-- R70, R136 to R138, R141, R144: a single-line change counts 1 forward or backward by Table 7-2, modulo 2^24, the encoder
reference follows, and the dwell restarts; a count beyond the watched tolerance on its axis aborts with MOTION. Both lines
changing together leave the position and the dwell alone and move the reference; while CONFIGURED, ENCODER_FAULT with axis
and position is offered first and then the current tile aborted with ENCODER. -/
def Obligations.EncoderTransitions : Prop :=
  ((∀ (s : State) (ax : Axis) (line : EncLine), s.stage.ref ax = s.stage.pair ax →
      let lead : Bool := (s.stage.pair ax).1 == (s.stage.pair ax).2
      let forward : Bool := match line with
        | .a => lead
        | .b => !lead
      let p := if forward = true then s.stage.pos ax + 1 else s.stage.pos ax - 1
      let g := ((s.stage.flip ax line).takeRef ax).setPos ax p
      let a : State := { s with stage := { g with
        dwell := if s.plan.station.map (·.dwell) = some 0 then none else some 0 } }
      let beyond := ∃ w, s.stage.watched = some w
        ∧ w.tolerance < (p - (match ax with
          | .x => w.x
          | .y => w.y)).toInt.natAbs
      (¬beyond → exec (.validTransition ax line) s = .next (finish a))
      ∧ (beyond → exec (.validTransition ax line) s = .next (finish (a.abort .motion))))
    ∧ ∀ p : BitVec 24, (p + 1).toInt = (if p.toInt = 8388607 then -8388608 else p.toInt + 1)
      ∧ (p - 1).toInt = if p.toInt = -8388608 then 8388607 else p.toInt - 1)
  ∧ (∀ (s : State) (ax : Axis), s.stage.ref ax = s.stage.pair ax →
      let a : State := { s with stage := ((s.stage.flip ax .a).flip ax .b).takeRef ax }
      (s.plan.station = none → exec (.invalidTransition ax) s = .next (finish a))
      ∧ (s.plan.station.isSome = true → exec (.invalidTransition ax) s =
        .next (finish ((a.offer (.encoderFault ax (s.stage.pos ax))).abort .encoder))))

/-- R71, R139, R141, R142: a rising home edge zeroes its axis, with the dwell restarted when the count was not 0, and aborts a
current tile with HOMED, after which R53 may arm a tile in the same step (log entry 29); a falling edge changes the filtered level alone; an edge that the level rules out does nothing. The
dwell's expiry makes the stage settled and changes nothing else; none comes while UNCONFIGURED. -/
def Obligations.HomeEdgesAndDwell : Prop :=
  (∀ (s : State) (ax : Axis),
      let high := (s.stage.home ax).level
      let g := s.stage.setHome ax true
      let zeroed : Stage := { g.setPos ax 0 with
        dwell := if s.plan.station.map (·.dwell) = some 0 then none else some 0 }
      (high = false → exec (.homeEdge ax) s = .next (finish (State.abort .homed
        { s with stage := if s.stage.pos ax = 0 then g else zeroed })))
      ∧ (high = true → exec (.homeEdge ax) s = .next (finish s))
      ∧ (high = true → exec (.fallingHomeEdge ax) s = .next (finish { s with stage := s.stage.setHome ax false }))
      ∧ (high = false → exec (.fallingHomeEdge ax) s = .next (finish s)))
  ∧ (∀ s : State,
      (s.plan.station.isSome = true →
        exec .dwellExpiry s = .next (finish { s with stage := { s.stage with dwell := none } }))
      ∧ (s.plan.station = none → exec .dwellExpiry s = .next (finish s))
      ∧ (s.stage.settled = true ↔ s.stage.dwell = none))

/-! ## Lamp and heat (chapter 8) -/

/-- R72, R161, R163: a rising CUT offers CUT_CHANGE with H and then aborts a current tile with HEAT; a falling CUT offers
CUT_CHANGE; power state, applied duty, counter, idle timer and heat stay. An edge that the level rules out does nothing. -/
def Obligations.CutEdges : Prop :=
  ∀ s : State,
    let at' : Bool → State := fun b => { s with stage := { s.stage with cut := { raw := b, level := b, run := 0 } } }
    (s.stage.cut.level = false → exec .cutRise s =
      .next (finish (((at' true).offer (.cutChange true s.lamp.heat)).abort .heat)))
    ∧ (s.stage.cut.level = true → exec .cutRise s = .next (finish s))
    ∧ (s.stage.cut.level = true → exec .cutFall s =
      .next (finish ((at' false).offer (.cutChange false s.lamp.heat))))
    ∧ (s.stage.cut.level = false → exec .cutFall s = .next (finish s))

/-- R56, R158, R159: the heat model's part of a 1 ms tick takes floor(H / 2^k) from H, adds the applied duty while the lamp
is ON and CUT low, and limits the result to 65535; the zone is judged by its thresholds, and a change to WARM that finds the
tile ARMED is a heat wait. R151: the tick is counted by the idle timer while the lamp is ON and the sequencer IDLE, up to
255000 (log entry 18), and at the lamp idle time the lamp turns OFF, before or after the heat model's part (log entry 2).
No tick runs while UNCONFIGURED. -/
def Obligations.HeatTickFollowsTheModel : Prop :=
  (∀ s : State, s.plan.station = none → exec .heatTick s = .next (finish s) ∧ heatStep s = s)
  ∧ (∀ (s : State) (st : Station), s.plan.station = some st →
    let input := if s.lamp.on = true ∧ s.stage.cut.level = false then s.lamp.applied else 0
    let heat := min 65535 (s.lamp.heat - s.lamp.heat / 2 ^ st.decay + input)
    let zone : Zone := match s.lamp.zone with
      | .cool => if st.warmHigh ≤ heat then .warm else .cool
      | .warm => if heat < st.warmLow then .cool else .warm
    let a : State := { s with lamp := { s.lamp with heat := heat, zone := zone } }
    let waits := ∃ t tile, s.seq.current = some t ∧ s.asm.tiles[t] = some tile ∧ tile.state = .armed
      ∧ s.lamp.zone = .cool ∧ zone = .warm
    (¬waits → heatStep s = a)
    ∧ ∀ t tile, s.seq.current = some t → s.asm.tiles[t] = some tile → tile.state = .armed → s.lamp.zone = .cool →
      zone = .warm → heatStep s = { a with asm := { s.asm with
        tiles := s.asm.tiles.set t (some { tile with heatWaits := min 255 (tile.heatWaits + 1) }) } })
  ∧ ∀ (s : State) (st : Station), s.plan.station = some st →
    let runs := s.lamp.on = true ∧ s.seq.current = none
    let count := min 255000 (s.lamp.idleTimer + 1)
    let off : State → State := fun v => { v with lamp := { v.lamp with on := false, counter := 0, idleTimer := 0 } }
    let u : State := { s with lamp := { s.lamp with idleTimer := count } }
    (¬runs → exec .heatTick s = .next (finish (heatStep s)))
    ∧ (runs → (st.idleTime = 0 ∨ count < st.idleTime * 1000) → exec .heatTick s = .next (finish (heatStep u)))
    ∧ (runs → 0 < st.idleTime → st.idleTime * 1000 ≤ count →
      exec .heatTick s = .next (finish (off (heatStep (u.draw 1))))
        ∨ exec .heatTick s = .next (finish (heatStep (off (u.draw 1)))))

/-- R154: the applied duty changes only at a period end of a lamp that is ON, where it takes the requested duty, and at the
moment the lamp passes from OFF to ON, where it takes the request formed there; a power-on reset makes it 0. Said of each
effect, and of each command with what follows in its step: there the lamp may turn ON in an arming that follows, and a
1 ms tick or an idle-timer expiry may have turned it OFF just before. -/
def Obligations.AppliedDutyChangesOnlyWhereLatched : Prop :=
  (∀ (c : Instr) (s : State),
    let t := refresh (effect c s)
    t.lamp.applied ≠ s.lamp.applied →
      (c = .periodEnd ∧ s.lamp.on = true ∧ t.lamp.applied = s.lamp.requested)
      ∨ (c = .arming ∧ s.lamp.on = false ∧ t.lamp.on = true ∧ t.lamp.applied = t.lamp.requested)
      ∨ (∃ lines straps, c = .powerOnReset lines straps ∧ t.lamp.applied = 0))
  ∧ ∀ (c : Instr) (s t : State), exec c s = .next t → t.lamp.applied ≠ s.lamp.applied →
    (c = .periodEnd ∧ s.lamp.on = true ∧ t.lamp.applied = s.lamp.requested)
    ∨ ((s.lamp.on = false ∨ c = .heatTick ∨ c = .idleTimerExpiry) ∧ t.lamp.on = true)
    ∨ (∃ lines straps, c = .powerOnReset lines straps ∧ t.lamp.applied = 0)

/-! ## The clock -/

/-- What one CLK cycle counts, the sampled levels of the seven stage lines being free values (log entry 14). 0.6 and R178:
while CONFIGURED the dividers count CLK cycles, 1 µs ticks and CLK cycles, and give the 1 µs, 1 ms and lamp ticks. R134: a
filter's run counts the samples that differ from its level. At a 1 µs tick: settle timer (R59), trigger pulse (R61),
exposure timer, but not while the capture master is held (R62), hold timers (R85), dwell (R141). At a 1 ms tick: the idle
timer while the lamp is ON and the sequencer IDLE (R151), up to 255000 (log entry 18). At a lamp tick: the period counter
while the lamp is ON (R148). Nothing else moves but the draw counter. -/
def Obligations.ClkCycleCounts : Prop :=
  ∀ s : State,
    let k := s.ticks
    let tick : Timer → Timer := fun t => { value := t.value + 1, limit := t.limit }
    (s.plan.station = none → k.us = false ∧ k.ms = false ∧ k.lamp = false)
    ∧ (∀ st, s.plan.station = some st →
      (k.us = true ↔ st.divisor ≤ s.clock.us + 1) ∧ (k.ms = true ↔ k.us = true ∧ 1000 ≤ s.clock.ms + 1)
      ∧ (k.lamp = true ↔ st.prescale ≤ s.clock.lampDiv + 1))
    ∧ ∃ l : StageLines,
      let counted : Filter → Bool → Filter := fun f raw =>
        { raw := raw, level := f.level, run := if raw = f.level then 0 else f.run + 1 }
      s.advance k = { s with
        clock := if s.plan.station = none then { s.clock with draws := s.clock.draws + 1 } else
          { us := if k.us = true then 0 else s.clock.us + 1
            ms := if k.ms = true then 0 else if k.us = true then s.clock.ms + 1 else s.clock.ms
            lampDiv := if k.lamp = true then 0 else s.clock.lampDiv + 1
            draws := s.clock.draws + 1 }
        stage := { s.stage with
          xa := counted s.stage.xa l.xa, xb := counted s.stage.xb l.xb
          ya := counted s.stage.ya l.ya, yb := counted s.stage.yb l.yb
          homeX := counted s.stage.homeX l.homeX, homeY := counted s.stage.homeY l.homeY
          cut := counted s.stage.cut l.cut
          dwell := if k.us = true then s.stage.dwell.map (· + 1) else s.stage.dwell }
        seq := { s.seq with
          settleTimer := if k.us = true then s.seq.settleTimer.map tick else s.seq.settleTimer
          pulseTimer := if k.us = true then s.seq.pulseTimer.map tick else s.seq.pulseTimer
          expTimer := if k.us = true ∧ s.seq.captureHeld = false then s.seq.expTimer.map tick else s.seq.expTimer }
        hold := { s.hold with
          queue := if k.us = true then s.hold.queue.map fun r => { r with timer := tick r.timer } else s.hold.queue }
        lamp := { s.lamp with
          idleTimer := if k.ms = true ∧ s.lamp.on = true ∧ s.seq.current = none then min 255000 (s.lamp.idleTimer + 1)
            else s.lamp.idleTimer
          counter := if k.lamp = true ∧ s.lamp.on = true then s.lamp.counter + 1 else s.lamp.counter } }

/-- What is due after a CLK cycle has counted. R134: a filter whose run has reached the depth; of an axis' two lines, each
alone or both together (R136, R137). At a 1 µs tick, a timer that has reached its length: dwell (R141), settle (R59), trigger
pulse and the deferred trigger once TRIG is low (R61), exposure (R62), hold (R85, R87). At a 1 ms tick, the heat model, and
the turn-off when the idle timer has reached the lamp idle time (R151, R158). At a lamp tick, the period end (R148). The
cycle takes each in its turn while it is still due, with what follows in its step; the order is a free value (log entries 1
and 2). -/
def Obligations.ClkCycleTakesWhatIsDue : Prop :=
  (∀ (s : State) (k : Ticks) (c : Instr),
    let depth := s.filterDepth
    let ripe : Filter → Prop := fun f => f.raw ≠ f.level ∧ depth ≤ f.run
    let lines : Axis → Filter × Filter := fun
      | .x => (s.stage.xa, s.stage.xb)
      | .y => (s.stage.ya, s.stage.yb)
    let home : Axis → Filter := fun
      | .x => s.stage.homeX
      | .y => s.stage.homeY
    let expired : Option Timer → Prop := fun o => ∃ t, o = some t ∧ t.limit ≤ t.value
    c ∈ s.due k ↔ match c with
      | .validTransition ax .a => ripe (lines ax).1 ∧ ¬ripe (lines ax).2
      | .validTransition ax .b => ripe (lines ax).2 ∧ ¬ripe (lines ax).1
      | .invalidTransition ax => ripe (lines ax).1 ∧ ripe (lines ax).2
      | .homeEdge ax => ripe (home ax) ∧ (home ax).level = false
      | .fallingHomeEdge ax => ripe (home ax) ∧ (home ax).level = true
      | .cutRise => ripe s.stage.cut ∧ s.stage.cut.level = false
      | .cutFall => ripe s.stage.cut ∧ s.stage.cut.level = true
      | .dwellExpiry => k.us = true ∧ ∃ v, s.stage.dwell = some v ∧ s.setting (·.dwell) ≤ v
      | .settleExpiry => k.us = true ∧ expired s.seq.settleTimer
      | .triggerPulseEnd => k.us = true ∧ expired s.seq.pulseTimer
      | .deferredTrigger => k.us = true ∧ s.seq.deferred = true ∧ s.seq.trig = false
      | .exposureTimerExpiry => k.us = true ∧ expired s.seq.expTimer
      | .holdTimerExpiry m => k.us = true ∧ ∃ r ∈ s.hold.queue, r.master = m ∧ r.timer.limit ≤ r.timer.value
      | .idleTimerExpiry => k.ms = true ∧ 0 < s.setting (·.idleTime) ∧ s.setting (·.idleTime) * 1000 ≤ s.lamp.idleTimer
        ∧ s.lamp.on = true ∧ s.seq.current = none
      | .heatTick => k.ms = true
      | .periodEnd => k.lamp = true ∧ s.lamp.on = true ∧ s.lamp.period ≤ s.lamp.counter
      | _ => False)
  ∧ (∀ (s : State) (k : Ticks) (c : Instr),
    (c ∉ s.due k → s.takeDue k c = s)
    ∧ (c ∈ s.due k → s.takeDue k c = finish (if c = .heatTick then heatStep s else effect c s)))
  ∧ ∀ s : State, ∃ events : List Instr, events.Perm ((s.advance s.ticks).due s.ticks)
    ∧ clkCycle s = finish (events.foldl (State.takeDue s.ticks) ((s.advance s.ticks).draw events.length))

/-! ## What every step keeps -/

/-- R152, R162, R148: after every step the requested duty is what the first line of Table 8-2 that applies gives, LAMP is
high exactly when the lamp is ON, CUT low and the counter below the smaller of duty and period, and the counter of a lamp
that is OFF is 0. -/
def Obligations.EveryStepKeepsTheLampLaw : Prop :=
  ∀ s t : State, LampLaw s → step s = .next t → LampLaw t

/-- R110, R116: every step keeps the law of the Posted Write Queue. -/
def Obligations.EveryStepKeepsThePwqLaw : Prop :=
  ∀ s t : State, PwqLaw s → step s = .next t → PwqLaw t

/-- R86, R99: every step keeps the law of the masters' reads. -/
def Obligations.EveryStepKeepsTheReadsLaw : Prop :=
  ∀ s t : State, ReadsLaw s → step s = .next t → ReadsLaw t

/-- R26, R27, R50, R51, R143: every step keeps the law of the tables and the exposure path: one tile at most in ARMED,
SETTLING or EXPOSING, the sequencer's, and MOVEOK high exactly when there is none. -/
def Obligations.EveryStepKeepsTheAssemblyLaw : Prop :=
  ∀ s t : State, AssemblyLaw s → step s = .next t → AssemblyLaw t

/-- R82: every step keeps the law of the holds. -/
def Obligations.EveryStepKeepsTheHoldLaw : Prop :=
  ∀ s t : State, AssemblyLaw s → HoldLaw s → step s = .next t → HoldLaw t

/-- R39 to R41, R187, R189: every step keeps the law of the Report Queue's places. -/
def Obligations.EveryStepKeepsTheReservationLaw : Prop :=
  ∀ s t : State, AssemblyLaw s → ReservationLaw s → step s = .next t → ReservationLaw t

/-- R186, R189, R190, R191: every step keeps the law of the report ring: IRQ high exactly while the drained produce index
differs from C; forward from C, the drained produce index, the indices on their way through the PWQ and P in this order. That a
new ring's header line stands before every record line of that ring is the model's choice (log entry 27). An entering record line adds one to the unconsumed records, which stay at most N − 1. -/
def Obligations.EveryStepKeepsTheRingLaw : Prop :=
  (∀ s t : State, PwqLaw s → AssemblyLaw s → RingLaw s → step s = .next t → RingLaw t)
  ∧ ∀ (s : State) (st : Station), RingLaw s → s.plan.station = some st → ReadyLine.record ∈ s.report.ready →
    s.forwardFromC st.capacity ((s.report.produce + 1) % st.capacity)
      = s.forwardFromC st.capacity s.report.produce + 1
    ∧ s.forwardFromC st.capacity s.report.produce + 1 ≤ st.capacity - 1

/-- The laws hold at reset. -/
def Obligations.ResetHasTheLaws : Prop :=
  LampLaw State.reset ∧ PwqLaw State.reset ∧ ReadsLaw State.reset ∧ AssemblyLaw State.reset ∧ HoldLaw State.reset
    ∧ ReservationLaw State.reset ∧ RingLaw State.reset

end Statements
end

