-- ==== Sys2Proof/Laws/State.lean ====
section
/-! SUPPORT. What each named update of State does to each of its fields, one simp lemma per field, all by rfl. -/

namespace Sys2Proof.Machine

variable (s : State)

/-! ### answer -/

@[simp] theorem answer_port (m : Master) (st : Status) (data : List Word) :
    (s.answer m st data).port =
      { s.port with answers := s.port.answers ++ [{ master := m, status := st, data := data }] } := rfl
@[simp] theorem answer_reads (m : Master) (st : Status) (data : List Word) : (s.answer m st data).reads = s.reads := rfl
@[simp] theorem answer_pwq (m : Master) (st : Status) (data : List Word) : (s.answer m st data).pwq = s.pwq := rfl
@[simp] theorem answer_merge (m : Master) (st : Status) (data : List Word) : (s.answer m st data).merge = s.merge := rfl
@[simp] theorem answer_asm (m : Master) (st : Status) (data : List Word) : (s.answer m st data).asm = s.asm := rfl
@[simp] theorem answer_seq (m : Master) (st : Status) (data : List Word) : (s.answer m st data).seq = s.seq := rfl
@[simp] theorem answer_hold (m : Master) (st : Status) (data : List Word) : (s.answer m st data).hold = s.hold := rfl
@[simp] theorem answer_stage (m : Master) (st : Status) (data : List Word) : (s.answer m st data).stage = s.stage := rfl
@[simp] theorem answer_lamp (m : Master) (st : Status) (data : List Word) : (s.answer m st data).lamp = s.lamp := rfl
@[simp] theorem answer_plan (m : Master) (st : Status) (data : List Word) : (s.answer m st data).plan = s.plan := rfl
@[simp] theorem answer_down (m : Master) (st : Status) (data : List Word) : (s.answer m st data).down = s.down := rfl
@[simp] theorem answer_report (m : Master) (st : Status) (data : List Word) :
    (s.answer m st data).report = s.report := rfl
@[simp] theorem answer_clock (m : Master) (st : Status) (data : List Word) : (s.answer m st data).clock = s.clock := rfl
@[simp] theorem answer_straps (m : Master) (st : Status) (data : List Word) :
    (s.answer m st data).straps = s.straps := rfl
@[simp] theorem answer_pending (m : Master) (st : Status) (data : List Word) :
    (s.answer m st data).pending = s.pending := rfl

/-! ### putFence -/

@[simp] theorem putFence_port (id : Nat) (t : TileNo) : (s.putFence id t).port = s.port := rfl
@[simp] theorem putFence_reads (id : Nat) (t : TileNo) : (s.putFence id t).reads = s.reads := rfl
@[simp] theorem putFence_pwq (id : Nat) (t : TileNo) :
    (s.putFence id t).pwq = { s.pwq with entries := s.pwq.entries.map (Entry.withFence id t) } := rfl
@[simp] theorem putFence_merge (id : Nat) (t : TileNo) : (s.putFence id t).merge = s.merge := rfl
@[simp] theorem putFence_asm (id : Nat) (t : TileNo) : (s.putFence id t).asm = s.asm := rfl
@[simp] theorem putFence_seq (id : Nat) (t : TileNo) : (s.putFence id t).seq = s.seq := rfl
@[simp] theorem putFence_hold (id : Nat) (t : TileNo) : (s.putFence id t).hold = s.hold := rfl
@[simp] theorem putFence_stage (id : Nat) (t : TileNo) : (s.putFence id t).stage = s.stage := rfl
@[simp] theorem putFence_lamp (id : Nat) (t : TileNo) : (s.putFence id t).lamp = s.lamp := rfl
@[simp] theorem putFence_plan (id : Nat) (t : TileNo) : (s.putFence id t).plan = s.plan := rfl
@[simp] theorem putFence_down (id : Nat) (t : TileNo) : (s.putFence id t).down = s.down := rfl
@[simp] theorem putFence_report (id : Nat) (t : TileNo) : (s.putFence id t).report = s.report := rfl
@[simp] theorem putFence_clock (id : Nat) (t : TileNo) : (s.putFence id t).clock = s.clock := rfl
@[simp] theorem putFence_straps (id : Nat) (t : TileNo) : (s.putFence id t).straps = s.straps := rfl
@[simp] theorem putFence_pending (id : Nat) (t : TileNo) : (s.putFence id t).pending = s.pending := rfl

/-! ### queueEssential -/

@[simp] theorem queueEssential_port (r : Record) : (s.queueEssential r).port = s.port := rfl
@[simp] theorem queueEssential_reads (r : Record) : (s.queueEssential r).reads = s.reads := rfl
@[simp] theorem queueEssential_pwq (r : Record) : (s.queueEssential r).pwq = s.pwq := rfl
@[simp] theorem queueEssential_merge (r : Record) : (s.queueEssential r).merge = s.merge := rfl
@[simp] theorem queueEssential_asm (r : Record) : (s.queueEssential r).asm = s.asm := rfl
@[simp] theorem queueEssential_seq (r : Record) : (s.queueEssential r).seq = s.seq := rfl
@[simp] theorem queueEssential_hold (r : Record) : (s.queueEssential r).hold = s.hold := rfl
@[simp] theorem queueEssential_stage (r : Record) : (s.queueEssential r).stage = s.stage := rfl
@[simp] theorem queueEssential_lamp (r : Record) : (s.queueEssential r).lamp = s.lamp := rfl
@[simp] theorem queueEssential_plan (r : Record) : (s.queueEssential r).plan = s.plan := rfl
@[simp] theorem queueEssential_down (r : Record) : (s.queueEssential r).down = s.down := rfl
@[simp] theorem queueEssential_report (r : Record) :
    (s.queueEssential r).report =
      { s.report with queue := s.report.queue ++ [r], reserved := s.report.reserved - 1 } := rfl
@[simp] theorem queueEssential_clock (r : Record) : (s.queueEssential r).clock = s.clock := rfl
@[simp] theorem queueEssential_straps (r : Record) : (s.queueEssential r).straps = s.straps := rfl
@[simp] theorem queueEssential_pending (r : Record) : (s.queueEssential r).pending = s.pending := rfl

/-! ### giveUp -/

@[simp] theorem giveUp_port (n : Nat) : (s.giveUp n).port = s.port := rfl
@[simp] theorem giveUp_reads (n : Nat) : (s.giveUp n).reads = s.reads := rfl
@[simp] theorem giveUp_pwq (n : Nat) : (s.giveUp n).pwq = s.pwq := rfl
@[simp] theorem giveUp_merge (n : Nat) : (s.giveUp n).merge = s.merge := rfl
@[simp] theorem giveUp_asm (n : Nat) : (s.giveUp n).asm = s.asm := rfl
@[simp] theorem giveUp_seq (n : Nat) : (s.giveUp n).seq = s.seq := rfl
@[simp] theorem giveUp_hold (n : Nat) : (s.giveUp n).hold = s.hold := rfl
@[simp] theorem giveUp_stage (n : Nat) : (s.giveUp n).stage = s.stage := rfl
@[simp] theorem giveUp_lamp (n : Nat) : (s.giveUp n).lamp = s.lamp := rfl
@[simp] theorem giveUp_plan (n : Nat) : (s.giveUp n).plan = s.plan := rfl
@[simp] theorem giveUp_down (n : Nat) : (s.giveUp n).down = s.down := rfl
@[simp] theorem giveUp_report (n : Nat) :
    (s.giveUp n).report = { s.report with reserved := s.report.reserved - n } := rfl
@[simp] theorem giveUp_clock (n : Nat) : (s.giveUp n).clock = s.clock := rfl
@[simp] theorem giveUp_straps (n : Nat) : (s.giveUp n).straps = s.straps := rfl
@[simp] theorem giveUp_pending (n : Nat) : (s.giveUp n).pending = s.pending := rfl

/-! ### reserve -/

@[simp] theorem reserve_port (n : Nat) : (s.reserve n).port = s.port := rfl
@[simp] theorem reserve_reads (n : Nat) : (s.reserve n).reads = s.reads := rfl
@[simp] theorem reserve_pwq (n : Nat) : (s.reserve n).pwq = s.pwq := rfl
@[simp] theorem reserve_merge (n : Nat) : (s.reserve n).merge = s.merge := rfl
@[simp] theorem reserve_asm (n : Nat) : (s.reserve n).asm = s.asm := rfl
@[simp] theorem reserve_seq (n : Nat) : (s.reserve n).seq = s.seq := rfl
@[simp] theorem reserve_hold (n : Nat) : (s.reserve n).hold = s.hold := rfl
@[simp] theorem reserve_stage (n : Nat) : (s.reserve n).stage = s.stage := rfl
@[simp] theorem reserve_lamp (n : Nat) : (s.reserve n).lamp = s.lamp := rfl
@[simp] theorem reserve_plan (n : Nat) : (s.reserve n).plan = s.plan := rfl
@[simp] theorem reserve_down (n : Nat) : (s.reserve n).down = s.down := rfl
@[simp] theorem reserve_report (n : Nat) :
    (s.reserve n).report = { s.report with reserved := s.report.reserved + n } := rfl
@[simp] theorem reserve_clock (n : Nat) : (s.reserve n).clock = s.clock := rfl
@[simp] theorem reserve_straps (n : Nat) : (s.reserve n).straps = s.straps := rfl
@[simp] theorem reserve_pending (n : Nat) : (s.reserve n).pending = s.pending := rfl

/-! ### setIrq -/

@[simp] theorem setIrq_port : (s.setIrq).port = s.port := rfl
@[simp] theorem setIrq_reads : (s.setIrq).reads = s.reads := rfl
@[simp] theorem setIrq_pwq : (s.setIrq).pwq = s.pwq := rfl
@[simp] theorem setIrq_merge : (s.setIrq).merge = s.merge := rfl
@[simp] theorem setIrq_asm : (s.setIrq).asm = s.asm := rfl
@[simp] theorem setIrq_seq : (s.setIrq).seq = s.seq := rfl
@[simp] theorem setIrq_hold : (s.setIrq).hold = s.hold := rfl
@[simp] theorem setIrq_stage : (s.setIrq).stage = s.stage := rfl
@[simp] theorem setIrq_lamp : (s.setIrq).lamp = s.lamp := rfl
@[simp] theorem setIrq_plan : (s.setIrq).plan = s.plan := rfl
@[simp] theorem setIrq_down : (s.setIrq).down = s.down := rfl
@[simp] theorem setIrq_report : (s.setIrq).report = { s.report with irq := s.report.drained != s.report.consume } := rfl
@[simp] theorem setIrq_clock : (s.setIrq).clock = s.clock := rfl
@[simp] theorem setIrq_straps : (s.setIrq).straps = s.straps := rfl
@[simp] theorem setIrq_pending : (s.setIrq).pending = s.pending := rfl

/-! ### setTile -/

@[simp] theorem setTile_port (t : TileNo) (x : Option Tile) : (s.setTile t x).port = s.port := rfl
@[simp] theorem setTile_reads (t : TileNo) (x : Option Tile) : (s.setTile t x).reads = s.reads := rfl
@[simp] theorem setTile_pwq (t : TileNo) (x : Option Tile) : (s.setTile t x).pwq = s.pwq := rfl
@[simp] theorem setTile_merge (t : TileNo) (x : Option Tile) : (s.setTile t x).merge = s.merge := rfl
@[simp] theorem setTile_asm (t : TileNo) (x : Option Tile) :
    (s.setTile t x).asm = { s.asm with tiles := s.asm.tiles.set t x } := rfl
@[simp] theorem setTile_seq (t : TileNo) (x : Option Tile) : (s.setTile t x).seq = s.seq := rfl
@[simp] theorem setTile_hold (t : TileNo) (x : Option Tile) : (s.setTile t x).hold = s.hold := rfl
@[simp] theorem setTile_stage (t : TileNo) (x : Option Tile) : (s.setTile t x).stage = s.stage := rfl
@[simp] theorem setTile_lamp (t : TileNo) (x : Option Tile) : (s.setTile t x).lamp = s.lamp := rfl
@[simp] theorem setTile_plan (t : TileNo) (x : Option Tile) : (s.setTile t x).plan = s.plan := rfl
@[simp] theorem setTile_down (t : TileNo) (x : Option Tile) : (s.setTile t x).down = s.down := rfl
@[simp] theorem setTile_report (t : TileNo) (x : Option Tile) : (s.setTile t x).report = s.report := rfl
@[simp] theorem setTile_clock (t : TileNo) (x : Option Tile) : (s.setTile t x).clock = s.clock := rfl
@[simp] theorem setTile_straps (t : TileNo) (x : Option Tile) : (s.setTile t x).straps = s.straps := rfl
@[simp] theorem setTile_pending (t : TileNo) (x : Option Tile) : (s.setTile t x).pending = s.pending := rfl

/-! ### setPlate -/

@[simp] theorem setPlate_port (p : SlotNo) (x : Option Plate) : (s.setPlate p x).port = s.port := rfl
@[simp] theorem setPlate_reads (p : SlotNo) (x : Option Plate) : (s.setPlate p x).reads = s.reads := rfl
@[simp] theorem setPlate_pwq (p : SlotNo) (x : Option Plate) : (s.setPlate p x).pwq = s.pwq := rfl
@[simp] theorem setPlate_merge (p : SlotNo) (x : Option Plate) : (s.setPlate p x).merge = s.merge := rfl
@[simp] theorem setPlate_asm (p : SlotNo) (x : Option Plate) :
    (s.setPlate p x).asm = { s.asm with plates := s.asm.plates.set p x } := rfl
@[simp] theorem setPlate_seq (p : SlotNo) (x : Option Plate) : (s.setPlate p x).seq = s.seq := rfl
@[simp] theorem setPlate_hold (p : SlotNo) (x : Option Plate) : (s.setPlate p x).hold = s.hold := rfl
@[simp] theorem setPlate_stage (p : SlotNo) (x : Option Plate) : (s.setPlate p x).stage = s.stage := rfl
@[simp] theorem setPlate_lamp (p : SlotNo) (x : Option Plate) : (s.setPlate p x).lamp = s.lamp := rfl
@[simp] theorem setPlate_plan (p : SlotNo) (x : Option Plate) : (s.setPlate p x).plan = s.plan := rfl
@[simp] theorem setPlate_down (p : SlotNo) (x : Option Plate) : (s.setPlate p x).down = s.down := rfl
@[simp] theorem setPlate_report (p : SlotNo) (x : Option Plate) : (s.setPlate p x).report = s.report := rfl
@[simp] theorem setPlate_clock (p : SlotNo) (x : Option Plate) : (s.setPlate p x).clock = s.clock := rfl
@[simp] theorem setPlate_straps (p : SlotNo) (x : Option Plate) : (s.setPlate p x).straps = s.straps := rfl
@[simp] theorem setPlate_pending (p : SlotNo) (x : Option Plate) : (s.setPlate p x).pending = s.pending := rfl

/-! ### modTile -/

@[simp] theorem modTile_port (t : TileNo) (f : Tile → Tile) : (s.modTile t f).port = s.port := rfl
@[simp] theorem modTile_reads (t : TileNo) (f : Tile → Tile) : (s.modTile t f).reads = s.reads := rfl
@[simp] theorem modTile_pwq (t : TileNo) (f : Tile → Tile) : (s.modTile t f).pwq = s.pwq := rfl
@[simp] theorem modTile_merge (t : TileNo) (f : Tile → Tile) : (s.modTile t f).merge = s.merge := rfl
@[simp] theorem modTile_asm (t : TileNo) (f : Tile → Tile) :
    (s.modTile t f).asm = { s.asm with tiles := s.asm.tiles.set t (s.asm.tiles[t].map f) } := rfl
@[simp] theorem modTile_seq (t : TileNo) (f : Tile → Tile) : (s.modTile t f).seq = s.seq := rfl
@[simp] theorem modTile_hold (t : TileNo) (f : Tile → Tile) : (s.modTile t f).hold = s.hold := rfl
@[simp] theorem modTile_stage (t : TileNo) (f : Tile → Tile) : (s.modTile t f).stage = s.stage := rfl
@[simp] theorem modTile_lamp (t : TileNo) (f : Tile → Tile) : (s.modTile t f).lamp = s.lamp := rfl
@[simp] theorem modTile_plan (t : TileNo) (f : Tile → Tile) : (s.modTile t f).plan = s.plan := rfl
@[simp] theorem modTile_down (t : TileNo) (f : Tile → Tile) : (s.modTile t f).down = s.down := rfl
@[simp] theorem modTile_report (t : TileNo) (f : Tile → Tile) : (s.modTile t f).report = s.report := rfl
@[simp] theorem modTile_clock (t : TileNo) (f : Tile → Tile) : (s.modTile t f).clock = s.clock := rfl
@[simp] theorem modTile_straps (t : TileNo) (f : Tile → Tile) : (s.modTile t f).straps = s.straps := rfl
@[simp] theorem modTile_pending (t : TileNo) (f : Tile → Tile) : (s.modTile t f).pending = s.pending := rfl

/-! ### modPlate -/

@[simp] theorem modPlate_port (p : SlotNo) (f : Plate → Plate) : (s.modPlate p f).port = s.port := rfl
@[simp] theorem modPlate_reads (p : SlotNo) (f : Plate → Plate) : (s.modPlate p f).reads = s.reads := rfl
@[simp] theorem modPlate_pwq (p : SlotNo) (f : Plate → Plate) : (s.modPlate p f).pwq = s.pwq := rfl
@[simp] theorem modPlate_merge (p : SlotNo) (f : Plate → Plate) : (s.modPlate p f).merge = s.merge := rfl
@[simp] theorem modPlate_asm (p : SlotNo) (f : Plate → Plate) :
    (s.modPlate p f).asm = { s.asm with plates := s.asm.plates.set p (s.asm.plates[p].map f) } := rfl
@[simp] theorem modPlate_seq (p : SlotNo) (f : Plate → Plate) : (s.modPlate p f).seq = s.seq := rfl
@[simp] theorem modPlate_hold (p : SlotNo) (f : Plate → Plate) : (s.modPlate p f).hold = s.hold := rfl
@[simp] theorem modPlate_stage (p : SlotNo) (f : Plate → Plate) : (s.modPlate p f).stage = s.stage := rfl
@[simp] theorem modPlate_lamp (p : SlotNo) (f : Plate → Plate) : (s.modPlate p f).lamp = s.lamp := rfl
@[simp] theorem modPlate_plan (p : SlotNo) (f : Plate → Plate) : (s.modPlate p f).plan = s.plan := rfl
@[simp] theorem modPlate_down (p : SlotNo) (f : Plate → Plate) : (s.modPlate p f).down = s.down := rfl
@[simp] theorem modPlate_report (p : SlotNo) (f : Plate → Plate) : (s.modPlate p f).report = s.report := rfl
@[simp] theorem modPlate_clock (p : SlotNo) (f : Plate → Plate) : (s.modPlate p f).clock = s.clock := rfl
@[simp] theorem modPlate_straps (p : SlotNo) (f : Plate → Plate) : (s.modPlate p f).straps = s.straps := rfl
@[simp] theorem modPlate_pending (p : SlotNo) (f : Plate → Plate) : (s.modPlate p f).pending = s.pending := rfl

/-! ### formRequest -/

@[simp] theorem formRequest_port : (s.formRequest).port = s.port := rfl
@[simp] theorem formRequest_reads : (s.formRequest).reads = s.reads := rfl
@[simp] theorem formRequest_pwq : (s.formRequest).pwq = s.pwq := rfl
@[simp] theorem formRequest_merge : (s.formRequest).merge = s.merge := rfl
@[simp] theorem formRequest_asm : (s.formRequest).asm = s.asm := rfl
@[simp] theorem formRequest_seq : (s.formRequest).seq = s.seq := rfl
@[simp] theorem formRequest_hold : (s.formRequest).hold = s.hold := rfl
@[simp] theorem formRequest_stage : (s.formRequest).stage = s.stage := rfl
@[simp] theorem formRequest_lamp :
    (s.formRequest).lamp = { s.lamp with requested := s.requestNow.1, fromTile := s.requestNow.2 } := rfl
@[simp] theorem formRequest_plan : (s.formRequest).plan = s.plan := rfl
@[simp] theorem formRequest_down : (s.formRequest).down = s.down := rfl
@[simp] theorem formRequest_report : (s.formRequest).report = s.report := rfl
@[simp] theorem formRequest_clock : (s.formRequest).clock = s.clock := rfl
@[simp] theorem formRequest_straps : (s.formRequest).straps = s.straps := rfl
@[simp] theorem formRequest_pending : (s.formRequest).pending = s.pending := rfl

/-! ### driveLamp -/

@[simp] theorem driveLamp_port : (s.driveLamp).port = s.port := rfl
@[simp] theorem driveLamp_reads : (s.driveLamp).reads = s.reads := rfl
@[simp] theorem driveLamp_pwq : (s.driveLamp).pwq = s.pwq := rfl
@[simp] theorem driveLamp_merge : (s.driveLamp).merge = s.merge := rfl
@[simp] theorem driveLamp_asm : (s.driveLamp).asm = s.asm := rfl
@[simp] theorem driveLamp_seq : (s.driveLamp).seq = s.seq := rfl
@[simp] theorem driveLamp_hold : (s.driveLamp).hold = s.hold := rfl
@[simp] theorem driveLamp_stage : (s.driveLamp).stage = s.stage := rfl
@[simp] theorem driveLamp_lamp : (s.driveLamp).lamp = { s.lamp with out := s.lampLevel } := rfl
@[simp] theorem driveLamp_plan : (s.driveLamp).plan = s.plan := rfl
@[simp] theorem driveLamp_down : (s.driveLamp).down = s.down := rfl
@[simp] theorem driveLamp_report : (s.driveLamp).report = s.report := rfl
@[simp] theorem driveLamp_clock : (s.driveLamp).clock = s.clock := rfl
@[simp] theorem driveLamp_straps : (s.driveLamp).straps = s.straps := rfl
@[simp] theorem driveLamp_pending : (s.driveLamp).pending = s.pending := rfl

/-! ### setHold -/

@[simp] theorem setHold_port (h : HoldNo) (x : Option Hold) : (s.setHold h x).port = s.port := rfl
@[simp] theorem setHold_reads (h : HoldNo) (x : Option Hold) : (s.setHold h x).reads = s.reads := rfl
@[simp] theorem setHold_pwq (h : HoldNo) (x : Option Hold) : (s.setHold h x).pwq = s.pwq := rfl
@[simp] theorem setHold_merge (h : HoldNo) (x : Option Hold) : (s.setHold h x).merge = s.merge := rfl
@[simp] theorem setHold_asm (h : HoldNo) (x : Option Hold) : (s.setHold h x).asm = s.asm := rfl
@[simp] theorem setHold_seq (h : HoldNo) (x : Option Hold) : (s.setHold h x).seq = s.seq := rfl
@[simp] theorem setHold_hold (h : HoldNo) (x : Option Hold) :
    (s.setHold h x).hold = { s.hold with pool := s.hold.pool.set h x } := rfl
@[simp] theorem setHold_stage (h : HoldNo) (x : Option Hold) : (s.setHold h x).stage = s.stage := rfl
@[simp] theorem setHold_lamp (h : HoldNo) (x : Option Hold) : (s.setHold h x).lamp = s.lamp := rfl
@[simp] theorem setHold_plan (h : HoldNo) (x : Option Hold) : (s.setHold h x).plan = s.plan := rfl
@[simp] theorem setHold_down (h : HoldNo) (x : Option Hold) : (s.setHold h x).down = s.down := rfl
@[simp] theorem setHold_report (h : HoldNo) (x : Option Hold) : (s.setHold h x).report = s.report := rfl
@[simp] theorem setHold_clock (h : HoldNo) (x : Option Hold) : (s.setHold h x).clock = s.clock := rfl
@[simp] theorem setHold_straps (h : HoldNo) (x : Option Hold) : (s.setHold h x).straps = s.straps := rfl
@[simp] theorem setHold_pending (h : HoldNo) (x : Option Hold) : (s.setHold h x).pending = s.pending := rfl

/-! ### clearRefs -/

@[simp] theorem clearRefs_port (ts : List TileNo) : (s.clearRefs ts).port = s.port := rfl
@[simp] theorem clearRefs_reads (ts : List TileNo) : (s.clearRefs ts).reads = s.reads := rfl
@[simp] theorem clearRefs_pwq (ts : List TileNo) :
    (s.clearRefs ts).pwq = { s.pwq with entries := s.pwq.entries.map (Entry.dropRef ts) } := rfl
@[simp] theorem clearRefs_merge (ts : List TileNo) : (s.clearRefs ts).merge = s.merge := rfl
@[simp] theorem clearRefs_asm (ts : List TileNo) : (s.clearRefs ts).asm = s.asm := rfl
@[simp] theorem clearRefs_seq (ts : List TileNo) : (s.clearRefs ts).seq = s.seq := rfl
@[simp] theorem clearRefs_hold (ts : List TileNo) : (s.clearRefs ts).hold = s.hold := rfl
@[simp] theorem clearRefs_stage (ts : List TileNo) : (s.clearRefs ts).stage = s.stage := rfl
@[simp] theorem clearRefs_lamp (ts : List TileNo) : (s.clearRefs ts).lamp = s.lamp := rfl
@[simp] theorem clearRefs_plan (ts : List TileNo) : (s.clearRefs ts).plan = s.plan := rfl
@[simp] theorem clearRefs_down (ts : List TileNo) : (s.clearRefs ts).down = s.down := rfl
@[simp] theorem clearRefs_report (ts : List TileNo) : (s.clearRefs ts).report = s.report := rfl
@[simp] theorem clearRefs_clock (ts : List TileNo) : (s.clearRefs ts).clock = s.clock := rfl
@[simp] theorem clearRefs_straps (ts : List TileNo) : (s.clearRefs ts).straps = s.straps := rfl
@[simp] theorem clearRefs_pending (ts : List TileNo) : (s.clearRefs ts).pending = s.pending := rfl

/-! ### leave -/

@[simp] theorem leave_port : (s.leave).port = s.port := rfl
@[simp] theorem leave_reads : (s.leave).reads = s.reads := rfl
@[simp] theorem leave_pwq : (s.leave).pwq = s.pwq := rfl
@[simp] theorem leave_merge : (s.leave).merge = { s.merge with frame := .closed, lastCarrier := none } := rfl
@[simp] theorem leave_asm : (s.leave).asm = s.asm := rfl
@[simp] theorem leave_seq :
    (s.leave).seq =
      { s.seq with current := none, settleTimer := none, deferred := false, expTimer := none, moveok := true } := rfl
@[simp] theorem leave_hold : (s.leave).hold = s.hold := rfl
@[simp] theorem leave_stage : (s.leave).stage = { s.stage with watched := none } := rfl
@[simp] theorem leave_lamp : (s.leave).lamp = s.lamp := rfl
@[simp] theorem leave_plan : (s.leave).plan = s.plan := rfl
@[simp] theorem leave_down : (s.leave).down = s.down := rfl
@[simp] theorem leave_report : (s.leave).report = s.report := rfl
@[simp] theorem leave_clock : (s.leave).clock = s.clock := rfl
@[simp] theorem leave_straps : (s.leave).straps = s.straps := rfl
@[simp] theorem leave_pending : (s.leave).pending = s.pending := rfl

/-! ### applyRequest -/

@[simp] theorem applyRequest_port : (s.applyRequest).port = s.port := rfl
@[simp] theorem applyRequest_reads : (s.applyRequest).reads = s.reads := rfl
@[simp] theorem applyRequest_pwq : (s.applyRequest).pwq = s.pwq := rfl
@[simp] theorem applyRequest_merge : (s.applyRequest).merge = s.merge := rfl
@[simp] theorem applyRequest_asm : (s.applyRequest).asm = s.asm := rfl
@[simp] theorem applyRequest_seq : (s.applyRequest).seq = s.seq := rfl
@[simp] theorem applyRequest_hold : (s.applyRequest).hold = s.hold := rfl
@[simp] theorem applyRequest_stage : (s.applyRequest).stage = s.stage := rfl
@[simp] theorem applyRequest_lamp :
    (s.applyRequest).lamp =
      { s.lamp with applied := s.lamp.requested, counter := 0, period := s.setting (·.pwmPeriod) } := rfl
@[simp] theorem applyRequest_plan : (s.applyRequest).plan = s.plan := rfl
@[simp] theorem applyRequest_down : (s.applyRequest).down = s.down := rfl
@[simp] theorem applyRequest_report : (s.applyRequest).report = s.report := rfl
@[simp] theorem applyRequest_clock : (s.applyRequest).clock = s.clock := rfl
@[simp] theorem applyRequest_straps : (s.applyRequest).straps = s.straps := rfl
@[simp] theorem applyRequest_pending : (s.applyRequest).pending = s.pending := rfl

/-! ### setCut -/

@[simp] theorem setCut_port (level : Bool) : (s.setCut level).port = s.port := rfl
@[simp] theorem setCut_reads (level : Bool) : (s.setCut level).reads = s.reads := rfl
@[simp] theorem setCut_pwq (level : Bool) : (s.setCut level).pwq = s.pwq := rfl
@[simp] theorem setCut_merge (level : Bool) : (s.setCut level).merge = s.merge := rfl
@[simp] theorem setCut_asm (level : Bool) : (s.setCut level).asm = s.asm := rfl
@[simp] theorem setCut_seq (level : Bool) : (s.setCut level).seq = s.seq := rfl
@[simp] theorem setCut_hold (level : Bool) : (s.setCut level).hold = s.hold := rfl
@[simp] theorem setCut_stage (level : Bool) : (s.setCut level).stage = { s.stage with cut := .moved level } := rfl
@[simp] theorem setCut_lamp (level : Bool) : (s.setCut level).lamp = s.lamp := rfl
@[simp] theorem setCut_plan (level : Bool) : (s.setCut level).plan = s.plan := rfl
@[simp] theorem setCut_down (level : Bool) : (s.setCut level).down = s.down := rfl
@[simp] theorem setCut_report (level : Bool) : (s.setCut level).report = s.report := rfl
@[simp] theorem setCut_clock (level : Bool) : (s.setCut level).clock = s.clock := rfl
@[simp] theorem setCut_straps (level : Bool) : (s.setCut level).straps = s.straps := rfl
@[simp] theorem setCut_pending (level : Bool) : (s.setCut level).pending = s.pending := rfl

/-! ### takeCounts -/

@[simp] theorem takeCounts_port (sc : Scan) : (s.takeCounts sc).port = s.port := rfl
@[simp] theorem takeCounts_reads (sc : Scan) : (s.takeCounts sc).reads = s.reads := rfl
@[simp] theorem takeCounts_pwq (sc : Scan) : (s.takeCounts sc).pwq = s.pwq := rfl
@[simp] theorem takeCounts_merge (sc : Scan) :
    (s.takeCounts sc).merge =
      { s.merge with frame := if sc.complete then .closed else s.merge.frame, counter := sc.counter, dark := sc.dark, clip := sc.clip, stray := sc.stray } := rfl
@[simp] theorem takeCounts_asm (sc : Scan) : (s.takeCounts sc).asm = s.asm := rfl
@[simp] theorem takeCounts_seq (sc : Scan) : (s.takeCounts sc).seq = s.seq := rfl
@[simp] theorem takeCounts_hold (sc : Scan) : (s.takeCounts sc).hold = s.hold := rfl
@[simp] theorem takeCounts_stage (sc : Scan) : (s.takeCounts sc).stage = s.stage := rfl
@[simp] theorem takeCounts_lamp (sc : Scan) : (s.takeCounts sc).lamp = s.lamp := rfl
@[simp] theorem takeCounts_plan (sc : Scan) : (s.takeCounts sc).plan = s.plan := rfl
@[simp] theorem takeCounts_down (sc : Scan) : (s.takeCounts sc).down = s.down := rfl
@[simp] theorem takeCounts_report (sc : Scan) : (s.takeCounts sc).report = s.report := rfl
@[simp] theorem takeCounts_clock (sc : Scan) : (s.takeCounts sc).clock = s.clock := rfl
@[simp] theorem takeCounts_straps (sc : Scan) : (s.takeCounts sc).straps = s.straps := rfl
@[simp] theorem takeCounts_pending (sc : Scan) : (s.takeCounts sc).pending = s.pending := rfl

/-! ### holdWrite -/

@[simp] theorem holdWrite_port (c : WriteClass) (w : WriteReq) :
    (s.holdWrite c w).port = { s.port with held := some { req := w, cls := c } } := rfl
@[simp] theorem holdWrite_reads (c : WriteClass) (w : WriteReq) : (s.holdWrite c w).reads = s.reads := rfl
@[simp] theorem holdWrite_pwq (c : WriteClass) (w : WriteReq) : (s.holdWrite c w).pwq = s.pwq := rfl
@[simp] theorem holdWrite_merge (c : WriteClass) (w : WriteReq) : (s.holdWrite c w).merge = s.merge := rfl
@[simp] theorem holdWrite_asm (c : WriteClass) (w : WriteReq) : (s.holdWrite c w).asm = s.asm := rfl
@[simp] theorem holdWrite_hold (c : WriteClass) (w : WriteReq) : (s.holdWrite c w).hold = s.hold := rfl
@[simp] theorem holdWrite_stage (c : WriteClass) (w : WriteReq) : (s.holdWrite c w).stage = s.stage := rfl
@[simp] theorem holdWrite_lamp (c : WriteClass) (w : WriteReq) : (s.holdWrite c w).lamp = s.lamp := rfl
@[simp] theorem holdWrite_plan (c : WriteClass) (w : WriteReq) : (s.holdWrite c w).plan = s.plan := rfl
@[simp] theorem holdWrite_down (c : WriteClass) (w : WriteReq) : (s.holdWrite c w).down = s.down := rfl
@[simp] theorem holdWrite_report (c : WriteClass) (w : WriteReq) : (s.holdWrite c w).report = s.report := rfl
@[simp] theorem holdWrite_clock (c : WriteClass) (w : WriteReq) : (s.holdWrite c w).clock = s.clock := rfl
@[simp] theorem holdWrite_straps (c : WriteClass) (w : WriteReq) : (s.holdWrite c w).straps = s.straps := rfl
@[simp] theorem holdWrite_pending (c : WriteClass) (w : WriteReq) : (s.holdWrite c w).pending = s.pending := rfl

/-! ### releaseHeld -/

@[simp] theorem releaseHeld_port (m : Master) : (s.releaseHeld m).port = { s.port with held := none } := rfl
@[simp] theorem releaseHeld_reads (m : Master) : (s.releaseHeld m).reads = s.reads := rfl
@[simp] theorem releaseHeld_pwq (m : Master) : (s.releaseHeld m).pwq = s.pwq := rfl
@[simp] theorem releaseHeld_merge (m : Master) : (s.releaseHeld m).merge = s.merge := rfl
@[simp] theorem releaseHeld_asm (m : Master) : (s.releaseHeld m).asm = s.asm := rfl
@[simp] theorem releaseHeld_hold (m : Master) : (s.releaseHeld m).hold = s.hold := rfl
@[simp] theorem releaseHeld_stage (m : Master) : (s.releaseHeld m).stage = s.stage := rfl
@[simp] theorem releaseHeld_lamp (m : Master) : (s.releaseHeld m).lamp = s.lamp := rfl
@[simp] theorem releaseHeld_plan (m : Master) : (s.releaseHeld m).plan = s.plan := rfl
@[simp] theorem releaseHeld_down (m : Master) : (s.releaseHeld m).down = s.down := rfl
@[simp] theorem releaseHeld_report (m : Master) : (s.releaseHeld m).report = s.report := rfl
@[simp] theorem releaseHeld_clock (m : Master) : (s.releaseHeld m).clock = s.clock := rfl
@[simp] theorem releaseHeld_straps (m : Master) : (s.releaseHeld m).straps = s.straps := rfl
@[simp] theorem releaseHeld_pending (m : Master) : (s.releaseHeld m).pending = s.pending := rfl

/-! ### presentFetch -/

@[simp] theorem presentFetch_port (k : PlanSlot) (line : Fin 8) : (s.presentFetch k line).port = s.port := rfl
@[simp] theorem presentFetch_reads (k : PlanSlot) (line : Fin 8) : (s.presentFetch k line).reads = s.reads := rfl
@[simp] theorem presentFetch_pwq (k : PlanSlot) (line : Fin 8) : (s.presentFetch k line).pwq = s.pwq := rfl
@[simp] theorem presentFetch_merge (k : PlanSlot) (line : Fin 8) : (s.presentFetch k line).merge = s.merge := rfl
@[simp] theorem presentFetch_asm (k : PlanSlot) (line : Fin 8) : (s.presentFetch k line).asm = s.asm := rfl
@[simp] theorem presentFetch_seq (k : PlanSlot) (line : Fin 8) : (s.presentFetch k line).seq = s.seq := rfl
@[simp] theorem presentFetch_hold (k : PlanSlot) (line : Fin 8) : (s.presentFetch k line).hold = s.hold := rfl
@[simp] theorem presentFetch_stage (k : PlanSlot) (line : Fin 8) : (s.presentFetch k line).stage = s.stage := rfl
@[simp] theorem presentFetch_lamp (k : PlanSlot) (line : Fin 8) : (s.presentFetch k line).lamp = s.lamp := rfl
@[simp] theorem presentFetch_plan (k : PlanSlot) (line : Fin 8) : (s.presentFetch k line).plan = s.plan := rfl
@[simp] theorem presentFetch_report (k : PlanSlot) (line : Fin 8) : (s.presentFetch k line).report = s.report := rfl
@[simp] theorem presentFetch_clock (k : PlanSlot) (line : Fin 8) : (s.presentFetch k line).clock = s.clock := rfl
@[simp] theorem presentFetch_straps (k : PlanSlot) (line : Fin 8) : (s.presentFetch k line).straps = s.straps := rfl
@[simp] theorem presentFetch_pending (k : PlanSlot) (line : Fin 8) : (s.presentFetch k line).pending = s.pending := rfl

/-! ### restartDwell -/

@[simp] theorem restartDwell_port : (s.restartDwell).port = s.port := rfl
@[simp] theorem restartDwell_reads : (s.restartDwell).reads = s.reads := rfl
@[simp] theorem restartDwell_pwq : (s.restartDwell).pwq = s.pwq := rfl
@[simp] theorem restartDwell_merge : (s.restartDwell).merge = s.merge := rfl
@[simp] theorem restartDwell_asm : (s.restartDwell).asm = s.asm := rfl
@[simp] theorem restartDwell_seq : (s.restartDwell).seq = s.seq := rfl
@[simp] theorem restartDwell_hold : (s.restartDwell).hold = s.hold := rfl
@[simp] theorem restartDwell_stage :
    (s.restartDwell).stage = { s.stage with dwell := if s.dwellTime = some 0 then none else some 0 } := rfl
@[simp] theorem restartDwell_lamp : (s.restartDwell).lamp = s.lamp := rfl
@[simp] theorem restartDwell_plan : (s.restartDwell).plan = s.plan := rfl
@[simp] theorem restartDwell_down : (s.restartDwell).down = s.down := rfl
@[simp] theorem restartDwell_report : (s.restartDwell).report = s.report := rfl
@[simp] theorem restartDwell_clock : (s.restartDwell).clock = s.clock := rfl
@[simp] theorem restartDwell_straps : (s.restartDwell).straps = s.straps := rfl
@[simp] theorem restartDwell_pending : (s.restartDwell).pending = s.pending := rfl

/-! ### count -/

@[simp] theorem count_port (ax : Axis) (p : BitVec 24) : (s.count ax p).port = s.port := rfl
@[simp] theorem count_reads (ax : Axis) (p : BitVec 24) : (s.count ax p).reads = s.reads := rfl
@[simp] theorem count_pwq (ax : Axis) (p : BitVec 24) : (s.count ax p).pwq = s.pwq := rfl
@[simp] theorem count_merge (ax : Axis) (p : BitVec 24) : (s.count ax p).merge = s.merge := rfl
@[simp] theorem count_asm (ax : Axis) (p : BitVec 24) : (s.count ax p).asm = s.asm := rfl
@[simp] theorem count_seq (ax : Axis) (p : BitVec 24) : (s.count ax p).seq = s.seq := rfl
@[simp] theorem count_hold (ax : Axis) (p : BitVec 24) : (s.count ax p).hold = s.hold := rfl
@[simp] theorem count_stage (ax : Axis) (p : BitVec 24) :
    (s.count ax p).stage = { s.stage.setPos ax p with dwell := if s.dwellTime = some 0 then none else some 0 } := rfl
@[simp] theorem count_lamp (ax : Axis) (p : BitVec 24) : (s.count ax p).lamp = s.lamp := rfl
@[simp] theorem count_plan (ax : Axis) (p : BitVec 24) : (s.count ax p).plan = s.plan := rfl
@[simp] theorem count_down (ax : Axis) (p : BitVec 24) : (s.count ax p).down = s.down := rfl
@[simp] theorem count_report (ax : Axis) (p : BitVec 24) : (s.count ax p).report = s.report := rfl
@[simp] theorem count_clock (ax : Axis) (p : BitVec 24) : (s.count ax p).clock = s.clock := rfl
@[simp] theorem count_straps (ax : Axis) (p : BitVec 24) : (s.count ax p).straps = s.straps := rfl
@[simp] theorem count_pending (ax : Axis) (p : BitVec 24) : (s.count ax p).pending = s.pending := rfl

/-! ### draw -/

@[simp] theorem draw_port (n : Nat) : (s.draw n).port = s.port := rfl
@[simp] theorem draw_reads (n : Nat) : (s.draw n).reads = s.reads := rfl
@[simp] theorem draw_pwq (n : Nat) : (s.draw n).pwq = s.pwq := rfl
@[simp] theorem draw_merge (n : Nat) : (s.draw n).merge = s.merge := rfl
@[simp] theorem draw_asm (n : Nat) : (s.draw n).asm = s.asm := rfl
@[simp] theorem draw_seq (n : Nat) : (s.draw n).seq = s.seq := rfl
@[simp] theorem draw_hold (n : Nat) : (s.draw n).hold = s.hold := rfl
@[simp] theorem draw_stage (n : Nat) : (s.draw n).stage = s.stage := rfl
@[simp] theorem draw_lamp (n : Nat) : (s.draw n).lamp = s.lamp := rfl
@[simp] theorem draw_plan (n : Nat) : (s.draw n).plan = s.plan := rfl
@[simp] theorem draw_down (n : Nat) : (s.draw n).down = s.down := rfl
@[simp] theorem draw_report (n : Nat) : (s.draw n).report = s.report := rfl
@[simp] theorem draw_clock (n : Nat) : (s.draw n).clock = { s.clock with draws := s.clock.draws + n } := rfl
@[simp] theorem draw_straps (n : Nat) : (s.draw n).straps = s.straps := rfl
@[simp] theorem draw_pending (n : Nat) : (s.draw n).pending = s.pending := rfl

/-! ### finishTake -/

@[simp] theorem finishTake_port (w : Word) : (s.finishTake w).port = s.port := rfl
@[simp] theorem finishTake_reads (w : Word) : (s.finishTake w).reads = s.reads := rfl
@[simp] theorem finishTake_pwq (w : Word) : (s.finishTake w).pwq = s.pwq := rfl
@[simp] theorem finishTake_merge (w : Word) : (s.finishTake w).merge = s.merge := rfl
@[simp] theorem finishTake_asm (w : Word) : (s.finishTake w).asm = s.asm := rfl
@[simp] theorem finishTake_seq (w : Word) : (s.finishTake w).seq = s.seq := rfl
@[simp] theorem finishTake_hold (w : Word) : (s.finishTake w).hold = s.hold := rfl
@[simp] theorem finishTake_stage (w : Word) : (s.finishTake w).stage = s.stage := rfl
@[simp] theorem finishTake_lamp (w : Word) : (s.finishTake w).lamp = s.lamp := rfl
@[simp] theorem finishTake_plan (w : Word) :
    (s.finishTake w).plan = { s.plan with take := s.plan.take.map fun k => { k with step := .finished w } } := rfl
@[simp] theorem finishTake_down (w : Word) : (s.finishTake w).down = { s.down with fetch := .idle } := rfl
@[simp] theorem finishTake_report (w : Word) : (s.finishTake w).report = s.report := rfl
@[simp] theorem finishTake_clock (w : Word) : (s.finishTake w).clock = s.clock := rfl
@[simp] theorem finishTake_straps (w : Word) : (s.finishTake w).straps = s.straps := rfl
@[simp] theorem finishTake_pending (w : Word) : (s.finishTake w).pending = s.pending := rfl

/-! ### setTake -/

@[simp] theorem setTake_port (k : Take) : (s.setTake k).port = s.port := rfl
@[simp] theorem setTake_reads (k : Take) : (s.setTake k).reads = s.reads := rfl
@[simp] theorem setTake_pwq (k : Take) : (s.setTake k).pwq = s.pwq := rfl
@[simp] theorem setTake_merge (k : Take) : (s.setTake k).merge = s.merge := rfl
@[simp] theorem setTake_asm (k : Take) : (s.setTake k).asm = s.asm := rfl
@[simp] theorem setTake_seq (k : Take) : (s.setTake k).seq = s.seq := rfl
@[simp] theorem setTake_hold (k : Take) : (s.setTake k).hold = s.hold := rfl
@[simp] theorem setTake_stage (k : Take) : (s.setTake k).stage = s.stage := rfl
@[simp] theorem setTake_lamp (k : Take) : (s.setTake k).lamp = s.lamp := rfl
@[simp] theorem setTake_plan (k : Take) : (s.setTake k).plan = { s.plan with take := some k } := rfl
@[simp] theorem setTake_down (k : Take) : (s.setTake k).down = s.down := rfl
@[simp] theorem setTake_report (k : Take) : (s.setTake k).report = s.report := rfl
@[simp] theorem setTake_clock (k : Take) : (s.setTake k).clock = s.clock := rfl
@[simp] theorem setTake_straps (k : Take) : (s.setTake k).straps = s.straps := rfl
@[simp] theorem setTake_pending (k : Take) : (s.setTake k).pending = s.pending := rfl

/-! ### newRing -/

@[simp] theorem newRing_port (st : Station) : (s.newRing st).port = s.port := rfl
@[simp] theorem newRing_reads (st : Station) : (s.newRing st).reads = s.reads := rfl
@[simp] theorem newRing_pwq (st : Station) :
    (s.newRing st).pwq = { s.pwq with entries := s.pwq.entries.map Entry.toOldRing } := rfl
@[simp] theorem newRing_merge (st : Station) : (s.newRing st).merge = s.merge := rfl
@[simp] theorem newRing_asm (st : Station) : (s.newRing st).asm = s.asm := rfl
@[simp] theorem newRing_seq (st : Station) : (s.newRing st).seq = s.seq := rfl
@[simp] theorem newRing_hold (st : Station) : (s.newRing st).hold = s.hold := rfl
@[simp] theorem newRing_stage (st : Station) : (s.newRing st).stage = s.stage := rfl
@[simp] theorem newRing_lamp (st : Station) : (s.newRing st).lamp = s.lamp := rfl
@[simp] theorem newRing_plan (st : Station) : (s.newRing st).plan = s.plan := rfl
@[simp] theorem newRing_down (st : Station) : (s.newRing st).down = s.down := rfl
@[simp] theorem newRing_clock (st : Station) : (s.newRing st).clock = s.clock := rfl
@[simp] theorem newRing_straps (st : Station) : (s.newRing st).straps = s.straps := rfl
@[simp] theorem newRing_pending (st : Station) : (s.newRing st).pending = s.pending := rfl

/-! ### issue -/

@[simp] theorem issue_port (t : Txn) : (s.issue t).port = s.port := rfl
@[simp] theorem issue_reads (t : Txn) : (s.issue t).reads = s.reads := rfl
@[simp] theorem issue_pwq (t : Txn) : (s.issue t).pwq = s.pwq := rfl
@[simp] theorem issue_merge (t : Txn) : (s.issue t).merge = s.merge := rfl
@[simp] theorem issue_asm (t : Txn) : (s.issue t).asm = s.asm := rfl
@[simp] theorem issue_seq (t : Txn) : (s.issue t).seq = s.seq := rfl
@[simp] theorem issue_hold (t : Txn) : (s.issue t).hold = s.hold := rfl
@[simp] theorem issue_stage (t : Txn) : (s.issue t).stage = s.stage := rfl
@[simp] theorem issue_lamp (t : Txn) : (s.issue t).lamp = s.lamp := rfl
@[simp] theorem issue_plan (t : Txn) : (s.issue t).plan = s.plan := rfl
@[simp] theorem issue_down (t : Txn) : (s.issue t).down = { s.down with issued := s.down.issued ++ [t] } := rfl
@[simp] theorem issue_report (t : Txn) : (s.issue t).report = s.report := rfl
@[simp] theorem issue_clock (t : Txn) : (s.issue t).clock = s.clock := rfl
@[simp] theorem issue_straps (t : Txn) : (s.issue t).straps = s.straps := rfl
@[simp] theorem issue_pending (t : Txn) : (s.issue t).pending = s.pending := rfl

/-! ### leaveSnapshots -/

@[simp] theorem leaveSnapshots_port (id : Nat) : (s.leaveSnapshots id).port = s.port := rfl
@[simp] theorem leaveSnapshots_pwq (id : Nat) : (s.leaveSnapshots id).pwq = s.pwq := rfl
@[simp] theorem leaveSnapshots_merge (id : Nat) : (s.leaveSnapshots id).merge = s.merge := rfl
@[simp] theorem leaveSnapshots_asm (id : Nat) : (s.leaveSnapshots id).asm = s.asm := rfl
@[simp] theorem leaveSnapshots_seq (id : Nat) : (s.leaveSnapshots id).seq = s.seq := rfl
@[simp] theorem leaveSnapshots_hold (id : Nat) : (s.leaveSnapshots id).hold = s.hold := rfl
@[simp] theorem leaveSnapshots_stage (id : Nat) : (s.leaveSnapshots id).stage = s.stage := rfl
@[simp] theorem leaveSnapshots_lamp (id : Nat) : (s.leaveSnapshots id).lamp = s.lamp := rfl
@[simp] theorem leaveSnapshots_plan (id : Nat) : (s.leaveSnapshots id).plan = s.plan := rfl
@[simp] theorem leaveSnapshots_down (id : Nat) :
    (s.leaveSnapshots id).down = { s.down with fetch := s.down.fetch.without id } := rfl
@[simp] theorem leaveSnapshots_report (id : Nat) : (s.leaveSnapshots id).report = s.report := rfl
@[simp] theorem leaveSnapshots_clock (id : Nat) : (s.leaveSnapshots id).clock = s.clock := rfl
@[simp] theorem leaveSnapshots_straps (id : Nat) : (s.leaveSnapshots id).straps = s.straps := rfl
@[simp] theorem leaveSnapshots_pending (id : Nat) : (s.leaveSnapshots id).pending = s.pending := rfl

/-! ### placeOne -/

@[simp] theorem placeOne_port (w : QWrite) : (s.placeOne w).port = s.port := rfl
@[simp] theorem placeOne_reads (w : QWrite) : (s.placeOne w).reads = s.reads := rfl
@[simp] theorem placeOne_pwq (w : QWrite) : (s.placeOne w).pwq = s.pwq.place w := rfl
@[simp] theorem placeOne_asm (w : QWrite) : (s.placeOne w).asm = s.asm := rfl
@[simp] theorem placeOne_seq (w : QWrite) : (s.placeOne w).seq = s.seq := rfl
@[simp] theorem placeOne_hold (w : QWrite) : (s.placeOne w).hold = s.hold := rfl
@[simp] theorem placeOne_stage (w : QWrite) : (s.placeOne w).stage = s.stage := rfl
@[simp] theorem placeOne_lamp (w : QWrite) : (s.placeOne w).lamp = s.lamp := rfl
@[simp] theorem placeOne_plan (w : QWrite) : (s.placeOne w).plan = s.plan := rfl
@[simp] theorem placeOne_down (w : QWrite) : (s.placeOne w).down = s.down := rfl
@[simp] theorem placeOne_report (w : QWrite) : (s.placeOne w).report = s.report := rfl
@[simp] theorem placeOne_clock (w : QWrite) : (s.placeOne w).clock = s.clock := rfl
@[simp] theorem placeOne_straps (w : QWrite) : (s.placeOne w).straps = s.straps := rfl
@[simp] theorem placeOne_pending (w : QWrite) : (s.placeOne w).pending = s.pending := rfl

/-! ### noteWait -/

@[simp] theorem noteWait_port : (s.noteWait).port = s.port := rfl
@[simp] theorem noteWait_reads : (s.noteWait).reads = s.reads := rfl
@[simp] theorem noteWait_pwq : (s.noteWait).pwq = s.pwq := rfl
@[simp] theorem noteWait_merge : (s.noteWait).merge = s.merge := rfl
@[simp] theorem noteWait_asm : (s.noteWait).asm = s.asm := rfl
@[simp] theorem noteWait_seq : (s.noteWait).seq = s.seq := rfl
@[simp] theorem noteWait_hold : (s.noteWait).hold = s.hold := rfl
@[simp] theorem noteWait_stage : (s.noteWait).stage = s.stage := rfl
@[simp] theorem noteWait_lamp : (s.noteWait).lamp = s.lamp := rfl
@[simp] theorem noteWait_plan : (s.noteWait).plan = s.plan := rfl
@[simp] theorem noteWait_down : (s.noteWait).down = s.down := rfl
@[simp] theorem noteWait_report :
    (s.noteWait).report =
      { s.report with waits := !s.report.ready.isEmpty && (s.report.waits || s.pwq.free < s.readyNeed) } := rfl
@[simp] theorem noteWait_clock : (s.noteWait).clock = s.clock := rfl
@[simp] theorem noteWait_straps : (s.noteWait).straps = s.straps := rfl
@[simp] theorem noteWait_pending : (s.noteWait).pending = s.pending := rfl

/-! ### enterReady -/

@[simp] theorem enterReady_port (w : QWrite) :
    (s.enterReady w).port = if s.port.held.isSome then { s.port with turn := .upstream } else s.port := rfl
@[simp] theorem enterReady_reads (w : QWrite) : (s.enterReady w).reads = s.reads := rfl
@[simp] theorem enterReady_pwq (w : QWrite) : (s.enterReady w).pwq = s.pwq.place w := rfl
@[simp] theorem enterReady_asm (w : QWrite) : (s.enterReady w).asm = s.asm := rfl
@[simp] theorem enterReady_seq (w : QWrite) : (s.enterReady w).seq = s.seq := rfl
@[simp] theorem enterReady_hold (w : QWrite) : (s.enterReady w).hold = s.hold := rfl
@[simp] theorem enterReady_stage (w : QWrite) : (s.enterReady w).stage = s.stage := rfl
@[simp] theorem enterReady_lamp (w : QWrite) : (s.enterReady w).lamp = s.lamp := rfl
@[simp] theorem enterReady_plan (w : QWrite) : (s.enterReady w).plan = s.plan := rfl
@[simp] theorem enterReady_down (w : QWrite) : (s.enterReady w).down = s.down := rfl
@[simp] theorem enterReady_report (w : QWrite) :
    (s.enterReady w).report = { s.report with ready := s.report.ready.tail, waits := false } := rfl
@[simp] theorem enterReady_clock (w : QWrite) : (s.enterReady w).clock = s.clock := rfl
@[simp] theorem enterReady_straps (w : QWrite) : (s.enterReady w).straps = s.straps := rfl
@[simp] theorem enterReady_pending (w : QWrite) : (s.enterReady w).pending = s.pending := rfl

end Sys2Proof.Machine
end

