-- ==== Sys2Proof/Laws/Frames.lean ====
section
/-! SUPPORT. The frame of every shared operation that branches or folds: the fields of State that it leaves as they are. -/

namespace Sys2Proof.Machine

/-- A field that each turn of a fold keeps, the fold keeps. -/
theorem foldl_keeps {α β : Type} (f : State → β) (g : State → α → State) (h : ∀ s x, f (g s x) = f s) (l : List α)
    (s : State) : f (l.foldl g s) = f s := by
  induction l generalizing s with
  | nil => rfl
  | cons x l ih => exact (ih _).trans (h s x)

@[simp] theorem forward_frame (s : State) (r : PortRead) :
    (s.forward r).port = s.port ∧ (s.forward r).pwq = s.pwq ∧ (s.forward r).merge = s.merge
     ∧ (s.forward r).asm = s.asm ∧ (s.forward r).seq = s.seq ∧ (s.forward r).hold = s.hold
     ∧ (s.forward r).stage = s.stage ∧ (s.forward r).lamp = s.lamp ∧ (s.forward r).plan = s.plan
     ∧ (s.forward r).down = s.down ∧ (s.forward r).report = s.report ∧ (s.forward r).clock = s.clock
     ∧ (s.forward r).straps = s.straps ∧ (s.forward r).pending = s.pending := by
  unfold State.forward; split <;> simp

@[simp] theorem offer_frame (s : State) (r : Record) :
    (s.offer r).port = s.port ∧ (s.offer r).reads = s.reads ∧ (s.offer r).pwq = s.pwq ∧ (s.offer r).merge = s.merge
     ∧ (s.offer r).asm = s.asm ∧ (s.offer r).seq = s.seq ∧ (s.offer r).hold = s.hold ∧ (s.offer r).stage = s.stage
     ∧ (s.offer r).lamp = s.lamp ∧ (s.offer r).plan = s.plan ∧ (s.offer r).down = s.down ∧ (s.offer r).clock = s.clock
     ∧ (s.offer r).straps = s.straps ∧ (s.offer r).pending = s.pending := by
  unfold State.offer; split <;> (try split) <;> simp

@[simp] theorem forwardReleased_frame (s : State) (r : HeldRead) :
    (s.forwardReleased r).port = s.port ∧ (s.forwardReleased r).pwq = s.pwq ∧ (s.forwardReleased r).merge = s.merge
     ∧ (s.forwardReleased r).asm = s.asm ∧ (s.forwardReleased r).seq = s.seq ∧ (s.forwardReleased r).hold = s.hold
     ∧ (s.forwardReleased r).stage = s.stage ∧ (s.forwardReleased r).lamp = s.lamp
     ∧ (s.forwardReleased r).plan = s.plan ∧ (s.forwardReleased r).down = s.down
     ∧ (s.forwardReleased r).report = s.report ∧ (s.forwardReleased r).clock = s.clock
     ∧ (s.forwardReleased r).straps = s.straps ∧ (s.forwardReleased r).pending = s.pending := by
  simp [State.forwardReleased]

@[simp] theorem forwardStale_frame (s : State) (c : StaleCause) (r : HeldRead) :
    (s.forwardStale c r).port = s.port ∧ (s.forwardStale c r).pwq = s.pwq ∧ (s.forwardStale c r).merge = s.merge
     ∧ (s.forwardStale c r).asm = s.asm ∧ (s.forwardStale c r).seq = s.seq ∧ (s.forwardStale c r).hold = s.hold
     ∧ (s.forwardStale c r).stage = s.stage ∧ (s.forwardStale c r).lamp = s.lamp ∧ (s.forwardStale c r).plan = s.plan
     ∧ (s.forwardStale c r).down = s.down ∧ (s.forwardStale c r).clock = s.clock
     ∧ (s.forwardStale c r).straps = s.straps ∧ (s.forwardStale c r).pending = s.pending := by
  simp [State.forwardStale]

@[simp] theorem foldSetTile_frame (s : State) {α : Type} (f : α → TileNo) (g : α → Option Tile) (l : List α) :
    (l.foldl (fun s x => s.setTile (f x) (g x)) s).port = s.port
     ∧ (l.foldl (fun s x => s.setTile (f x) (g x)) s).reads = s.reads
     ∧ (l.foldl (fun s x => s.setTile (f x) (g x)) s).pwq = s.pwq
     ∧ (l.foldl (fun s x => s.setTile (f x) (g x)) s).merge = s.merge
     ∧ (l.foldl (fun s x => s.setTile (f x) (g x)) s).seq = s.seq
     ∧ (l.foldl (fun s x => s.setTile (f x) (g x)) s).hold = s.hold
     ∧ (l.foldl (fun s x => s.setTile (f x) (g x)) s).stage = s.stage
     ∧ (l.foldl (fun s x => s.setTile (f x) (g x)) s).lamp = s.lamp
     ∧ (l.foldl (fun s x => s.setTile (f x) (g x)) s).plan = s.plan
     ∧ (l.foldl (fun s x => s.setTile (f x) (g x)) s).down = s.down
     ∧ (l.foldl (fun s x => s.setTile (f x) (g x)) s).report = s.report
     ∧ (l.foldl (fun s x => s.setTile (f x) (g x)) s).clock = s.clock
     ∧ (l.foldl (fun s x => s.setTile (f x) (g x)) s).straps = s.straps
     ∧ (l.foldl (fun s x => s.setTile (f x) (g x)) s).pending = s.pending := by
  exact ⟨foldl_keeps State.port _ (fun s x => by simp) _ _,
    foldl_keeps State.reads _ (fun s x => by simp) _ _,
    foldl_keeps State.pwq _ (fun s x => by simp) _ _,
    foldl_keeps State.merge _ (fun s x => by simp) _ _,
    foldl_keeps State.seq _ (fun s x => by simp) _ _,
    foldl_keeps State.hold _ (fun s x => by simp) _ _,
    foldl_keeps State.stage _ (fun s x => by simp) _ _,
    foldl_keeps State.lamp _ (fun s x => by simp) _ _,
    foldl_keeps State.plan _ (fun s x => by simp) _ _,
    foldl_keeps State.down _ (fun s x => by simp) _ _,
    foldl_keeps State.report _ (fun s x => by simp) _ _,
    foldl_keeps State.clock _ (fun s x => by simp) _ _,
    foldl_keeps State.straps _ (fun s x => by simp) _ _,
    foldl_keeps State.pending _ (fun s x => by simp) _ _⟩

@[simp] theorem foldModTile_frame (s : State) (f : Tile → Tile) (l : List TileNo) :
    (l.foldl (fun s t => s.modTile t f) s).port = s.port ∧ (l.foldl (fun s t => s.modTile t f) s).reads = s.reads
     ∧ (l.foldl (fun s t => s.modTile t f) s).pwq = s.pwq ∧ (l.foldl (fun s t => s.modTile t f) s).merge = s.merge
     ∧ (l.foldl (fun s t => s.modTile t f) s).seq = s.seq ∧ (l.foldl (fun s t => s.modTile t f) s).hold = s.hold
     ∧ (l.foldl (fun s t => s.modTile t f) s).stage = s.stage ∧ (l.foldl (fun s t => s.modTile t f) s).lamp = s.lamp
     ∧ (l.foldl (fun s t => s.modTile t f) s).plan = s.plan ∧ (l.foldl (fun s t => s.modTile t f) s).down = s.down
     ∧ (l.foldl (fun s t => s.modTile t f) s).report = s.report
     ∧ (l.foldl (fun s t => s.modTile t f) s).clock = s.clock
     ∧ (l.foldl (fun s t => s.modTile t f) s).straps = s.straps
     ∧ (l.foldl (fun s t => s.modTile t f) s).pending = s.pending := by
  exact ⟨foldl_keeps State.port _ (fun s x => by simp) _ _,
    foldl_keeps State.reads _ (fun s x => by simp) _ _,
    foldl_keeps State.pwq _ (fun s x => by simp) _ _,
    foldl_keeps State.merge _ (fun s x => by simp) _ _,
    foldl_keeps State.seq _ (fun s x => by simp) _ _,
    foldl_keeps State.hold _ (fun s x => by simp) _ _,
    foldl_keeps State.stage _ (fun s x => by simp) _ _,
    foldl_keeps State.lamp _ (fun s x => by simp) _ _,
    foldl_keeps State.plan _ (fun s x => by simp) _ _,
    foldl_keeps State.down _ (fun s x => by simp) _ _,
    foldl_keeps State.report _ (fun s x => by simp) _ _,
    foldl_keeps State.clock _ (fun s x => by simp) _ _,
    foldl_keeps State.straps _ (fun s x => by simp) _ _,
    foldl_keeps State.pending _ (fun s x => by simp) _ _⟩

@[simp] theorem foldSetHold_frame (s : State) {α : Type} (f : α → HoldNo) (g : α → Option Hold) (l : List α) :
    (l.foldl (fun s x => s.setHold (f x) (g x)) s).port = s.port
     ∧ (l.foldl (fun s x => s.setHold (f x) (g x)) s).reads = s.reads
     ∧ (l.foldl (fun s x => s.setHold (f x) (g x)) s).pwq = s.pwq
     ∧ (l.foldl (fun s x => s.setHold (f x) (g x)) s).merge = s.merge
     ∧ (l.foldl (fun s x => s.setHold (f x) (g x)) s).asm = s.asm
     ∧ (l.foldl (fun s x => s.setHold (f x) (g x)) s).seq = s.seq
     ∧ (l.foldl (fun s x => s.setHold (f x) (g x)) s).stage = s.stage
     ∧ (l.foldl (fun s x => s.setHold (f x) (g x)) s).lamp = s.lamp
     ∧ (l.foldl (fun s x => s.setHold (f x) (g x)) s).plan = s.plan
     ∧ (l.foldl (fun s x => s.setHold (f x) (g x)) s).down = s.down
     ∧ (l.foldl (fun s x => s.setHold (f x) (g x)) s).report = s.report
     ∧ (l.foldl (fun s x => s.setHold (f x) (g x)) s).clock = s.clock
     ∧ (l.foldl (fun s x => s.setHold (f x) (g x)) s).straps = s.straps
     ∧ (l.foldl (fun s x => s.setHold (f x) (g x)) s).pending = s.pending := by
  exact ⟨foldl_keeps State.port _ (fun s x => by simp) _ _,
    foldl_keeps State.reads _ (fun s x => by simp) _ _,
    foldl_keeps State.pwq _ (fun s x => by simp) _ _,
    foldl_keeps State.merge _ (fun s x => by simp) _ _,
    foldl_keeps State.asm _ (fun s x => by simp) _ _,
    foldl_keeps State.seq _ (fun s x => by simp) _ _,
    foldl_keeps State.stage _ (fun s x => by simp) _ _,
    foldl_keeps State.lamp _ (fun s x => by simp) _ _,
    foldl_keeps State.plan _ (fun s x => by simp) _ _,
    foldl_keeps State.down _ (fun s x => by simp) _ _,
    foldl_keeps State.report _ (fun s x => by simp) _ _,
    foldl_keeps State.clock _ (fun s x => by simp) _ _,
    foldl_keeps State.straps _ (fun s x => by simp) _ _,
    foldl_keeps State.pending _ (fun s x => by simp) _ _⟩

@[simp] theorem releaseHold_frame (s : State) (h : HoldNo) :
    (s.releaseHold h).port = s.port ∧ (s.releaseHold h).pwq = s.pwq ∧ (s.releaseHold h).merge = s.merge
     ∧ (s.releaseHold h).asm = s.asm ∧ (s.releaseHold h).seq = s.seq ∧ (s.releaseHold h).stage = s.stage
     ∧ (s.releaseHold h).lamp = s.lamp ∧ (s.releaseHold h).plan = s.plan ∧ (s.releaseHold h).down = s.down
     ∧ (s.releaseHold h).report = s.report ∧ (s.releaseHold h).clock = s.clock ∧ (s.releaseHold h).straps = s.straps
     ∧ (s.releaseHold h).pending = s.pending := by
  simp only [State.releaseHold, State.takeOut]
  exact ⟨(foldl_keeps State.port _ (fun s x => by simp) _ _).trans (by simp),
    (foldl_keeps State.pwq _ (fun s x => by simp) _ _).trans (by simp),
    (foldl_keeps State.merge _ (fun s x => by simp) _ _).trans (by simp),
    (foldl_keeps State.asm _ (fun s x => by simp) _ _).trans (by simp),
    (foldl_keeps State.seq _ (fun s x => by simp) _ _).trans (by simp),
    (foldl_keeps State.stage _ (fun s x => by simp) _ _).trans (by simp),
    (foldl_keeps State.lamp _ (fun s x => by simp) _ _).trans (by simp),
    (foldl_keeps State.plan _ (fun s x => by simp) _ _).trans (by simp),
    (foldl_keeps State.down _ (fun s x => by simp) _ _).trans (by simp),
    (foldl_keeps State.report _ (fun s x => by simp) _ _).trans (by simp),
    (foldl_keeps State.clock _ (fun s x => by simp) _ _).trans (by simp),
    (foldl_keeps State.straps _ (fun s x => by simp) _ _).trans (by simp),
    (foldl_keeps State.pending _ (fun s x => by simp) _ _).trans (by simp)⟩

@[simp] theorem dismissHolds_frame (s : State) (hs : List HoldNo) :
    (s.dismissHolds hs).port = s.port ∧ (s.dismissHolds hs).pwq = s.pwq ∧ (s.dismissHolds hs).merge = s.merge
     ∧ (s.dismissHolds hs).asm = s.asm ∧ (s.dismissHolds hs).seq = s.seq ∧ (s.dismissHolds hs).stage = s.stage
     ∧ (s.dismissHolds hs).lamp = s.lamp ∧ (s.dismissHolds hs).plan = s.plan ∧ (s.dismissHolds hs).down = s.down
     ∧ (s.dismissHolds hs).clock = s.clock ∧ (s.dismissHolds hs).straps = s.straps
     ∧ (s.dismissHolds hs).pending = s.pending := by
  simp only [State.dismissHolds, State.takeOut]
  exact ⟨(foldl_keeps State.port _ (fun s x => by simp) _ _).trans (foldl_keeps State.port _ (fun s x => by simp) _ _),
    (foldl_keeps State.pwq _ (fun s x => by simp) _ _).trans (foldl_keeps State.pwq _ (fun s x => by simp) _ _),
    (foldl_keeps State.merge _ (fun s x => by simp) _ _).trans (foldl_keeps State.merge _ (fun s x => by simp) _ _),
    (foldl_keeps State.asm _ (fun s x => by simp) _ _).trans (foldl_keeps State.asm _ (fun s x => by simp) _ _),
    (foldl_keeps State.seq _ (fun s x => by simp) _ _).trans (foldl_keeps State.seq _ (fun s x => by simp) _ _),
    (foldl_keeps State.stage _ (fun s x => by simp) _ _).trans (foldl_keeps State.stage _ (fun s x => by simp) _ _),
    (foldl_keeps State.lamp _ (fun s x => by simp) _ _).trans (foldl_keeps State.lamp _ (fun s x => by simp) _ _),
    (foldl_keeps State.plan _ (fun s x => by simp) _ _).trans (foldl_keeps State.plan _ (fun s x => by simp) _ _),
    (foldl_keeps State.down _ (fun s x => by simp) _ _).trans (foldl_keeps State.down _ (fun s x => by simp) _ _),
    (foldl_keeps State.clock _ (fun s x => by simp) _ _).trans (foldl_keeps State.clock _ (fun s x => by simp) _ _),
    (foldl_keeps State.straps _ (fun s x => by simp) _ _).trans (foldl_keeps State.straps _ (fun s x => by simp) _ _),
    (foldl_keeps State.pending _ (fun s x => by simp) _ _).trans (foldl_keeps State.pending _ (fun s x => by simp) _ _)⟩

@[simp] theorem holdTimerExpiry_frame (s : State) (m : Master) :
    (Sys2Proof.Machine.holdTimerExpiry m s).port = s.port ∧ (Sys2Proof.Machine.holdTimerExpiry m s).pwq = s.pwq
     ∧ (Sys2Proof.Machine.holdTimerExpiry m s).merge = s.merge ∧ (Sys2Proof.Machine.holdTimerExpiry m s).asm = s.asm
     ∧ (Sys2Proof.Machine.holdTimerExpiry m s).seq = s.seq ∧ (Sys2Proof.Machine.holdTimerExpiry m s).stage = s.stage
     ∧ (Sys2Proof.Machine.holdTimerExpiry m s).lamp = s.lamp ∧ (Sys2Proof.Machine.holdTimerExpiry m s).plan = s.plan
     ∧ (Sys2Proof.Machine.holdTimerExpiry m s).down = s.down ∧ (Sys2Proof.Machine.holdTimerExpiry m s).clock = s.clock
     ∧ (Sys2Proof.Machine.holdTimerExpiry m s).straps = s.straps
     ∧ (Sys2Proof.Machine.holdTimerExpiry m s).pending = s.pending := by
  simp only [Sys2Proof.Machine.holdTimerExpiry, State.takeOut]
  exact ⟨foldl_keeps State.port _ (fun s x => by simp) _ _,
    foldl_keeps State.pwq _ (fun s x => by simp) _ _,
    foldl_keeps State.merge _ (fun s x => by simp) _ _,
    foldl_keeps State.asm _ (fun s x => by simp) _ _,
    foldl_keeps State.seq _ (fun s x => by simp) _ _,
    foldl_keeps State.stage _ (fun s x => by simp) _ _,
    foldl_keeps State.lamp _ (fun s x => by simp) _ _,
    foldl_keeps State.plan _ (fun s x => by simp) _ _,
    foldl_keeps State.down _ (fun s x => by simp) _ _,
    foldl_keeps State.clock _ (fun s x => by simp) _ _,
    foldl_keeps State.straps _ (fun s x => by simp) _ _,
    foldl_keeps State.pending _ (fun s x => by simp) _ _⟩

@[simp] theorem heldReadArrives_frame (s : State) (h : HoldNo) (p : Policy) (r : ReadReq) :
    (s.heldReadArrives h p r).port = s.port ∧ (s.heldReadArrives h p r).pwq = s.pwq
     ∧ (s.heldReadArrives h p r).merge = s.merge ∧ (s.heldReadArrives h p r).asm = s.asm
     ∧ (s.heldReadArrives h p r).seq = s.seq ∧ (s.heldReadArrives h p r).stage = s.stage
     ∧ (s.heldReadArrives h p r).lamp = s.lamp ∧ (s.heldReadArrives h p r).plan = s.plan
     ∧ (s.heldReadArrives h p r).down = s.down ∧ (s.heldReadArrives h p r).clock = s.clock
     ∧ (s.heldReadArrives h p r).straps = s.straps ∧ (s.heldReadArrives h p r).pending = s.pending := by
  cases p <;> simp [State.heldReadArrives]

@[simp] theorem finishBand_frame (s : State) (p : SlotNo) (row : Nat) :
    (s.finishBand p row).port = s.port ∧ (s.finishBand p row).pwq = s.pwq ∧ (s.finishBand p row).merge = s.merge
     ∧ (s.finishBand p row).seq = s.seq ∧ (s.finishBand p row).stage = s.stage ∧ (s.finishBand p row).lamp = s.lamp
     ∧ (s.finishBand p row).plan = s.plan ∧ (s.finishBand p row).down = s.down
     ∧ (s.finishBand p row).report = s.report ∧ (s.finishBand p row).clock = s.clock
     ∧ (s.finishBand p row).straps = s.straps ∧ (s.finishBand p row).pending = s.pending := by
  unfold State.finishBand; split <;> (try split) <;> (try split) <;> simp

@[simp] theorem finishPlate_frame (s : State) (p : SlotNo) :
    (s.finishPlate p).port = s.port ∧ (s.finishPlate p).reads = s.reads ∧ (s.finishPlate p).pwq = s.pwq
     ∧ (s.finishPlate p).merge = s.merge ∧ (s.finishPlate p).seq = s.seq ∧ (s.finishPlate p).hold = s.hold
     ∧ (s.finishPlate p).stage = s.stage ∧ (s.finishPlate p).lamp = s.lamp ∧ (s.finishPlate p).plan = s.plan
     ∧ (s.finishPlate p).down = s.down ∧ (s.finishPlate p).clock = s.clock ∧ (s.finishPlate p).straps = s.straps
     ∧ (s.finishPlate p).pending = s.pending := by
  unfold State.finishPlate; split <;> (try split) <;> simp

@[simp] theorem endTile_frame (s : State) (t : TileNo) (tile : Tile) (x : TileState) (f : Plate → Plate) (r : Record) :
    (s.endTile t tile x f r).port = s.port ∧ (s.endTile t tile x f r).pwq = s.pwq
     ∧ (s.endTile t tile x f r).merge = s.merge ∧ (s.endTile t tile x f r).seq = s.seq
     ∧ (s.endTile t tile x f r).stage = s.stage ∧ (s.endTile t tile x f r).lamp = s.lamp
     ∧ (s.endTile t tile x f r).plan = s.plan ∧ (s.endTile t tile x f r).down = s.down
     ∧ (s.endTile t tile x f r).clock = s.clock ∧ (s.endTile t tile x f r).straps = s.straps
     ∧ (s.endTile t tile x f r).pending = s.pending := by
  simp [State.endTile]

@[simp] theorem freePlate_frame (s : State) (p : SlotNo) (d f : Nat) :
    (s.freePlate p d f).port = s.port ∧ (s.freePlate p d f).reads = s.reads ∧ (s.freePlate p d f).merge = s.merge
     ∧ (s.freePlate p d f).seq = s.seq ∧ (s.freePlate p d f).hold = s.hold ∧ (s.freePlate p d f).stage = s.stage
     ∧ (s.freePlate p d f).lamp = s.lamp ∧ (s.freePlate p d f).plan = s.plan ∧ (s.freePlate p d f).down = s.down
     ∧ (s.freePlate p d f).clock = s.clock ∧ (s.freePlate p d f).straps = s.straps
     ∧ (s.freePlate p d f).pending = s.pending := by
  unfold State.freePlate; split <;> simp

@[simp] theorem freeIfDone_frame (s : State) (p : SlotNo) :
    (s.freeIfDone p).port = s.port ∧ (s.freeIfDone p).reads = s.reads ∧ (s.freeIfDone p).merge = s.merge
     ∧ (s.freeIfDone p).seq = s.seq ∧ (s.freeIfDone p).hold = s.hold ∧ (s.freeIfDone p).stage = s.stage
     ∧ (s.freeIfDone p).lamp = s.lamp ∧ (s.freeIfDone p).plan = s.plan ∧ (s.freeIfDone p).down = s.down
     ∧ (s.freeIfDone p).clock = s.clock ∧ (s.freeIfDone p).straps = s.straps ∧ (s.freeIfDone p).pending = s.pending := by
  unfold State.freeIfDone; split <;> (try split) <;> (try split) <;> simp

@[simp] theorem deliverFence_frame (s : State) (t : TileNo) :
    (s.deliverFence t).port = s.port ∧ (s.deliverFence t).merge = s.merge ∧ (s.deliverFence t).seq = s.seq
     ∧ (s.deliverFence t).stage = s.stage ∧ (s.deliverFence t).lamp = s.lamp ∧ (s.deliverFence t).plan = s.plan
     ∧ (s.deliverFence t).down = s.down ∧ (s.deliverFence t).clock = s.clock ∧ (s.deliverFence t).straps = s.straps
     ∧ (s.deliverFence t).pending = s.pending := by
  unfold State.deliverFence; split <;> (try split) <;> (try split) <;> simp

@[simp] theorem placeFence_frame (s : State) (t : TileNo) (c : Option Nat) :
    (s.placeFence t c).port = s.port ∧ (s.placeFence t c).merge = s.merge ∧ (s.placeFence t c).seq = s.seq
     ∧ (s.placeFence t c).stage = s.stage ∧ (s.placeFence t c).lamp = s.lamp ∧ (s.placeFence t c).plan = s.plan
     ∧ (s.placeFence t c).down = s.down ∧ (s.placeFence t c).clock = s.clock ∧ (s.placeFence t c).straps = s.straps
     ∧ (s.placeFence t c).pending = s.pending := by
  unfold State.placeFence; split <;> simp

@[simp] theorem closeCurrent_frame (s : State) (t : TileNo) (tile : Tile) (o : ClosingOutcome) (h : Option Nat) :
    (s.closeCurrent t tile o h).port = s.port ∧ (s.closeCurrent t tile o h).lamp = s.lamp
     ∧ (s.closeCurrent t tile o h).plan = s.plan ∧ (s.closeCurrent t tile o h).down = s.down
     ∧ (s.closeCurrent t tile o h).clock = s.clock ∧ (s.closeCurrent t tile o h).straps = s.straps
     ∧ (s.closeCurrent t tile o h).pending = s.pending := by
  simp [State.closeCurrent]

@[simp] theorem abortToPending_frame (s : State) (t : TileNo) (tile : Tile) (r : Reason) :
    (s.abortToPending t tile r).port = s.port ∧ (s.abortToPending t tile r).reads = s.reads
     ∧ (s.abortToPending t tile r).pwq = s.pwq ∧ (s.abortToPending t tile r).hold = s.hold
     ∧ (s.abortToPending t tile r).lamp = s.lamp ∧ (s.abortToPending t tile r).plan = s.plan
     ∧ (s.abortToPending t tile r).down = s.down ∧ (s.abortToPending t tile r).clock = s.clock
     ∧ (s.abortToPending t tile r).straps = s.straps ∧ (s.abortToPending t tile r).pending = s.pending := by
  simp [State.abortToPending]

@[simp] theorem abort_frame (s : State) (r : Reason) :
    (s.abort r).port = s.port ∧ (s.abort r).lamp = s.lamp ∧ (s.abort r).plan = s.plan ∧ (s.abort r).down = s.down
     ∧ (s.abort r).clock = s.clock ∧ (s.abort r).straps = s.straps ∧ (s.abort r).pending = s.pending := by
  unfold State.abort; split <;> (try split) <;> simp

@[simp] theorem discardCurrent_frame (s : State) (p : SlotNo) :
    (s.discardCurrent p).port = s.port ∧ (s.discardCurrent p).lamp = s.lamp ∧ (s.discardCurrent p).plan = s.plan
     ∧ (s.discardCurrent p).down = s.down ∧ (s.discardCurrent p).clock = s.clock
     ∧ (s.discardCurrent p).straps = s.straps ∧ (s.discardCurrent p).pending = s.pending := by
  unfold State.discardCurrent; split <;> (try split) <;> simp

@[simp] theorem giveUpTile_frame (s : State) (t : TileNo) :
    (s.giveUpTile t).port = s.port ∧ (s.giveUpTile t).reads = s.reads ∧ (s.giveUpTile t).pwq = s.pwq
     ∧ (s.giveUpTile t).merge = s.merge ∧ (s.giveUpTile t).seq = s.seq ∧ (s.giveUpTile t).hold = s.hold
     ∧ (s.giveUpTile t).stage = s.stage ∧ (s.giveUpTile t).lamp = s.lamp ∧ (s.giveUpTile t).plan = s.plan
     ∧ (s.giveUpTile t).down = s.down ∧ (s.giveUpTile t).clock = s.clock ∧ (s.giveUpTile t).straps = s.straps
     ∧ (s.giveUpTile t).pending = s.pending := by
  unfold State.giveUpTile; split <;> simp

@[simp] theorem foldGiveUpTile_frame (s : State) (l : List TileNo) :
    (l.foldl (fun s t => s.giveUpTile t) s).port = s.port ∧ (l.foldl (fun s t => s.giveUpTile t) s).reads = s.reads
     ∧ (l.foldl (fun s t => s.giveUpTile t) s).pwq = s.pwq ∧ (l.foldl (fun s t => s.giveUpTile t) s).merge = s.merge
     ∧ (l.foldl (fun s t => s.giveUpTile t) s).seq = s.seq ∧ (l.foldl (fun s t => s.giveUpTile t) s).hold = s.hold
     ∧ (l.foldl (fun s t => s.giveUpTile t) s).stage = s.stage ∧ (l.foldl (fun s t => s.giveUpTile t) s).lamp = s.lamp
     ∧ (l.foldl (fun s t => s.giveUpTile t) s).plan = s.plan ∧ (l.foldl (fun s t => s.giveUpTile t) s).down = s.down
     ∧ (l.foldl (fun s t => s.giveUpTile t) s).clock = s.clock
     ∧ (l.foldl (fun s t => s.giveUpTile t) s).straps = s.straps
     ∧ (l.foldl (fun s t => s.giveUpTile t) s).pending = s.pending := by
  exact ⟨foldl_keeps State.port _ (fun s x => by simp) _ _,
    foldl_keeps State.reads _ (fun s x => by simp) _ _,
    foldl_keeps State.pwq _ (fun s x => by simp) _ _,
    foldl_keeps State.merge _ (fun s x => by simp) _ _,
    foldl_keeps State.seq _ (fun s x => by simp) _ _,
    foldl_keeps State.hold _ (fun s x => by simp) _ _,
    foldl_keeps State.stage _ (fun s x => by simp) _ _,
    foldl_keeps State.lamp _ (fun s x => by simp) _ _,
    foldl_keeps State.plan _ (fun s x => by simp) _ _,
    foldl_keeps State.down _ (fun s x => by simp) _ _,
    foldl_keeps State.clock _ (fun s x => by simp) _ _,
    foldl_keeps State.straps _ (fun s x => by simp) _ _,
    foldl_keeps State.pending _ (fun s x => by simp) _ _⟩

@[simp] theorem discardPlate_frame (s : State) (p : SlotNo) (plate : Plate) :
    (s.discardPlate p plate).port = s.port ∧ (s.discardPlate p plate).merge = s.merge
     ∧ (s.discardPlate p plate).seq = s.seq ∧ (s.discardPlate p plate).stage = s.stage
     ∧ (s.discardPlate p plate).lamp = s.lamp ∧ (s.discardPlate p plate).plan = s.plan
     ∧ (s.discardPlate p plate).down = s.down ∧ (s.discardPlate p plate).clock = s.clock
     ∧ (s.discardPlate p plate).straps = s.straps ∧ (s.discardPlate p plate).pending = s.pending := by
  simp [State.discardPlate]

@[simp] theorem acceptPlate_frame (s : State) (p : SlotNo) (ws : List Word) :
    (s.acceptPlate p ws).port = s.port ∧ (s.acceptPlate p ws).reads = s.reads ∧ (s.acceptPlate p ws).pwq = s.pwq
     ∧ (s.acceptPlate p ws).merge = s.merge ∧ (s.acceptPlate p ws).seq = s.seq ∧ (s.acceptPlate p ws).stage = s.stage
     ∧ (s.acceptPlate p ws).lamp = s.lamp ∧ (s.acceptPlate p ws).plan = s.plan ∧ (s.acceptPlate p ws).down = s.down
     ∧ (s.acceptPlate p ws).report = s.report ∧ (s.acceptPlate p ws).clock = s.clock
     ∧ (s.acceptPlate p ws).straps = s.straps ∧ (s.acceptPlate p ws).pending = s.pending := by
  simp [State.acceptPlate]

@[simp] theorem closeBand_frame (s : State) (p : SlotNo) (row : Nat) :
    (s.closeBand p row).port = s.port ∧ (s.closeBand p row).reads = s.reads ∧ (s.closeBand p row).pwq = s.pwq
     ∧ (s.closeBand p row).merge = s.merge ∧ (s.closeBand p row).seq = s.seq ∧ (s.closeBand p row).stage = s.stage
     ∧ (s.closeBand p row).lamp = s.lamp ∧ (s.closeBand p row).plan = s.plan ∧ (s.closeBand p row).down = s.down
     ∧ (s.closeBand p row).report = s.report ∧ (s.closeBand p row).clock = s.clock
     ∧ (s.closeBand p row).straps = s.straps ∧ (s.closeBand p row).pending = s.pending := by
  unfold State.closeBand; split <;> (try split) <;> simp

@[simp] theorem acceptRetake_frame (s : State) (p : SlotNo) (t : TileNo) (tile : Tile) :
    (s.acceptRetake p t tile).port = s.port ∧ (s.acceptRetake p t tile).reads = s.reads
     ∧ (s.acceptRetake p t tile).pwq = s.pwq ∧ (s.acceptRetake p t tile).merge = s.merge
     ∧ (s.acceptRetake p t tile).seq = s.seq ∧ (s.acceptRetake p t tile).stage = s.stage
     ∧ (s.acceptRetake p t tile).lamp = s.lamp ∧ (s.acceptRetake p t tile).plan = s.plan
     ∧ (s.acceptRetake p t tile).down = s.down ∧ (s.acceptRetake p t tile).report = s.report
     ∧ (s.acceptRetake p t tile).clock = s.clock ∧ (s.acceptRetake p t tile).straps = s.straps
     ∧ (s.acceptRetake p t tile).pending = s.pending := by
  simp [State.acceptRetake]

@[simp] theorem acceptDismiss_frame (s : State) (p : SlotNo) (plate : Plate) :
    (s.acceptDismiss p plate).port = s.port ∧ (s.acceptDismiss p plate).lamp = s.lamp
     ∧ (s.acceptDismiss p plate).plan = s.plan ∧ (s.acceptDismiss p plate).down = s.down
     ∧ (s.acceptDismiss p plate).clock = s.clock ∧ (s.acceptDismiss p plate).straps = s.straps
     ∧ (s.acceptDismiss p plate).pending = s.pending := by
  unfold State.acceptDismiss; simp only []; split <;> simp

@[simp] theorem startExposure_frame (s : State) (t : TileNo) (tile : Tile) :
    (s.startExposure t tile).port = s.port ∧ (s.startExposure t tile).reads = s.reads
     ∧ (s.startExposure t tile).pwq = s.pwq ∧ (s.startExposure t tile).hold = s.hold
     ∧ (s.startExposure t tile).stage = s.stage ∧ (s.startExposure t tile).lamp = s.lamp
     ∧ (s.startExposure t tile).plan = s.plan ∧ (s.startExposure t tile).down = s.down
     ∧ (s.startExposure t tile).report = s.report ∧ (s.startExposure t tile).clock = s.clock
     ∧ (s.startExposure t tile).straps = s.straps ∧ (s.startExposure t tile).pending = s.pending := by
  simp [State.startExposure]

@[simp] theorem settleExpires_frame (s : State) (t : TileNo) (tile : Tile) :
    (s.settleExpires t tile).port = s.port ∧ (s.settleExpires t tile).reads = s.reads
     ∧ (s.settleExpires t tile).pwq = s.pwq ∧ (s.settleExpires t tile).hold = s.hold
     ∧ (s.settleExpires t tile).stage = s.stage ∧ (s.settleExpires t tile).lamp = s.lamp
     ∧ (s.settleExpires t tile).plan = s.plan ∧ (s.settleExpires t tile).down = s.down
     ∧ (s.settleExpires t tile).report = s.report ∧ (s.settleExpires t tile).clock = s.clock
     ∧ (s.settleExpires t tile).straps = s.straps ∧ (s.settleExpires t tile).pending = s.pending := by
  unfold State.settleExpires; split <;> simp

@[simp] theorem enterSettling_frame (s : State) (t : TileNo) (tile : Tile) :
    (s.enterSettling t tile).port = s.port ∧ (s.enterSettling t tile).reads = s.reads
     ∧ (s.enterSettling t tile).pwq = s.pwq ∧ (s.enterSettling t tile).hold = s.hold
     ∧ (s.enterSettling t tile).stage = s.stage ∧ (s.enterSettling t tile).lamp = s.lamp
     ∧ (s.enterSettling t tile).plan = s.plan ∧ (s.enterSettling t tile).down = s.down
     ∧ (s.enterSettling t tile).report = s.report ∧ (s.enterSettling t tile).clock = s.clock
     ∧ (s.enterSettling t tile).straps = s.straps ∧ (s.enterSettling t tile).pending = s.pending := by
  unfold State.enterSettling; simp only []; split <;> simp

@[simp] theorem latch_frame (s : State) :
    (s.latch).port = s.port ∧ (s.latch).reads = s.reads ∧ (s.latch).pwq = s.pwq ∧ (s.latch).hold = s.hold
     ∧ (s.latch).stage = s.stage ∧ (s.latch).lamp = s.lamp ∧ (s.latch).plan = s.plan ∧ (s.latch).down = s.down
     ∧ (s.latch).report = s.report ∧ (s.latch).clock = s.clock ∧ (s.latch).straps = s.straps
     ∧ (s.latch).pending = s.pending := by
  unfold State.latch; split <;> (try split) <;> simp

@[simp] theorem turnOn_frame (s : State) :
    (s.turnOn).port = s.port ∧ (s.turnOn).reads = s.reads ∧ (s.turnOn).pwq = s.pwq ∧ (s.turnOn).hold = s.hold
     ∧ (s.turnOn).stage = s.stage ∧ (s.turnOn).plan = s.plan ∧ (s.turnOn).down = s.down ∧ (s.turnOn).report = s.report
     ∧ (s.turnOn).clock = s.clock ∧ (s.turnOn).straps = s.straps ∧ (s.turnOn).pending = s.pending := by
  simp [State.turnOn]

@[simp] theorem judgeZone_frame (s : State) :
    (s.judgeZone).port = s.port ∧ (s.judgeZone).reads = s.reads ∧ (s.judgeZone).pwq = s.pwq
     ∧ (s.judgeZone).merge = s.merge ∧ (s.judgeZone).seq = s.seq ∧ (s.judgeZone).hold = s.hold
     ∧ (s.judgeZone).stage = s.stage ∧ (s.judgeZone).plan = s.plan ∧ (s.judgeZone).down = s.down
     ∧ (s.judgeZone).report = s.report ∧ (s.judgeZone).clock = s.clock ∧ (s.judgeZone).straps = s.straps
     ∧ (s.judgeZone).pending = s.pending := by
  unfold State.judgeZone; split <;> (try (simp only []; split)) <;> (try split) <;> simp

@[simp] theorem offerStray_frame (s : State) :
    (s.offerStray).port = s.port ∧ (s.offerStray).reads = s.reads ∧ (s.offerStray).pwq = s.pwq
     ∧ (s.offerStray).asm = s.asm ∧ (s.offerStray).seq = s.seq ∧ (s.offerStray).hold = s.hold
     ∧ (s.offerStray).stage = s.stage ∧ (s.offerStray).lamp = s.lamp ∧ (s.offerStray).plan = s.plan
     ∧ (s.offerStray).down = s.down ∧ (s.offerStray).clock = s.clock ∧ (s.offerStray).straps = s.straps
     ∧ (s.offerStray).pending = s.pending := by
  unfold State.offerStray; split <;> simp

@[simp] theorem armTile_frame (s : State) (t : TileNo) (plate : Plate) (tile : Tile) :
    (s.armTile t plate tile).port = s.port ∧ (s.armTile t plate tile).reads = s.reads
     ∧ (s.armTile t plate tile).pwq = s.pwq ∧ (s.armTile t plate tile).hold = s.hold
     ∧ (s.armTile t plate tile).plan = s.plan ∧ (s.armTile t plate tile).down = s.down
     ∧ (s.armTile t plate tile).clock = s.clock ∧ (s.armTile t plate tile).straps = s.straps
     ∧ (s.armTile t plate tile).pending = s.pending := by
  unfold State.armTile; simp only []; split <;> simp

@[simp] theorem placeAll_frame (s : State) (ws : List QWrite) :
    (s.placeAll ws).port = s.port ∧ (s.placeAll ws).reads = s.reads ∧ (s.placeAll ws).asm = s.asm
     ∧ (s.placeAll ws).seq = s.seq ∧ (s.placeAll ws).hold = s.hold ∧ (s.placeAll ws).stage = s.stage
     ∧ (s.placeAll ws).lamp = s.lamp ∧ (s.placeAll ws).plan = s.plan ∧ (s.placeAll ws).down = s.down
     ∧ (s.placeAll ws).report = s.report ∧ (s.placeAll ws).clock = s.clock ∧ (s.placeAll ws).straps = s.straps
     ∧ (s.placeAll ws).pending = s.pending := by
  simp only [State.placeAll]
  exact ⟨foldl_keeps State.port _ (fun s x => by simp) _ _,
    foldl_keeps State.reads _ (fun s x => by simp) _ _,
    foldl_keeps State.asm _ (fun s x => by simp) _ _,
    foldl_keeps State.seq _ (fun s x => by simp) _ _,
    foldl_keeps State.hold _ (fun s x => by simp) _ _,
    foldl_keeps State.stage _ (fun s x => by simp) _ _,
    foldl_keeps State.lamp _ (fun s x => by simp) _ _,
    foldl_keeps State.plan _ (fun s x => by simp) _ _,
    foldl_keeps State.down _ (fun s x => by simp) _ _,
    foldl_keeps State.report _ (fun s x => by simp) _ _,
    foldl_keeps State.clock _ (fun s x => by simp) _ _,
    foldl_keeps State.straps _ (fun s x => by simp) _ _,
    foldl_keeps State.pending _ (fun s x => by simp) _ _⟩

@[simp] theorem completeFrame_frame (s : State) (t : TileNo) (tile : Tile) (plate : Plate) :
    (s.completeFrame t tile plate).port = s.port ∧ (s.completeFrame t tile plate).lamp = s.lamp
     ∧ (s.completeFrame t tile plate).plan = s.plan ∧ (s.completeFrame t tile plate).down = s.down
     ∧ (s.completeFrame t tile plate).clock = s.clock ∧ (s.completeFrame t tile plate).straps = s.straps
     ∧ (s.completeFrame t tile plate).pending = s.pending := by
  unfold State.completeFrame; simp only []; split <;> simp

@[simp] theorem handOver_frame (s : State) (sc : Scan) :
    (s.handOver sc).port = s.port ∧ (s.handOver sc).lamp = s.lamp ∧ (s.handOver sc).plan = s.plan
     ∧ (s.handOver sc).down = s.down ∧ (s.handOver sc).clock = s.clock ∧ (s.handOver sc).straps = s.straps
     ∧ (s.handOver sc).pending = s.pending := by
  unfold State.handOver; split <;> simp

@[simp] theorem enterWrite_frame (s : State) (c : WriteClass) (w : WriteReq) :
    (s.enterWrite c w).port = s.port ∧ (s.enterWrite c w).lamp = s.lamp ∧ (s.enterWrite c w).plan = s.plan
     ∧ (s.enterWrite c w).down = s.down ∧ (s.enterWrite c w).clock = s.clock ∧ (s.enterWrite c w).straps = s.straps
     ∧ (s.enterWrite c w).pending = s.pending := by
  cases c <;> simp [State.enterWrite]

@[simp] theorem postFlag_frame (s : State) (k : PlanSlot) (v : Word) :
    (s.postFlag k v).port = s.port ∧ (s.postFlag k v).reads = s.reads ∧ (s.postFlag k v).pwq = s.pwq
     ∧ (s.postFlag k v).merge = s.merge ∧ (s.postFlag k v).asm = s.asm ∧ (s.postFlag k v).seq = s.seq
     ∧ (s.postFlag k v).hold = s.hold ∧ (s.postFlag k v).stage = s.stage ∧ (s.postFlag k v).lamp = s.lamp
     ∧ (s.postFlag k v).down = s.down ∧ (s.postFlag k v).report = s.report ∧ (s.postFlag k v).clock = s.clock
     ∧ (s.postFlag k v).straps = s.straps ∧ (s.postFlag k v).pending = s.pending := by
  unfold State.postFlag; split <;> simp

@[simp] theorem consumeValue_frame (s : State) (v : Word) :
    (s.consumeValue v).port = s.port ∧ (s.consumeValue v).reads = s.reads ∧ (s.consumeValue v).pwq = s.pwq
     ∧ (s.consumeValue v).merge = s.merge ∧ (s.consumeValue v).asm = s.asm ∧ (s.consumeValue v).seq = s.seq
     ∧ (s.consumeValue v).hold = s.hold ∧ (s.consumeValue v).stage = s.stage ∧ (s.consumeValue v).lamp = s.lamp
     ∧ (s.consumeValue v).plan = s.plan ∧ (s.consumeValue v).down = s.down ∧ (s.consumeValue v).clock = s.clock
     ∧ (s.consumeValue v).straps = s.straps ∧ (s.consumeValue v).pending = s.pending := by
  unfold State.consumeValue; split <;> (try split) <;> simp

@[simp] theorem passTurnToReport_frame (s : State) :
    (s.passTurnToReport).reads = s.reads ∧ (s.passTurnToReport).pwq = s.pwq ∧ (s.passTurnToReport).merge = s.merge
     ∧ (s.passTurnToReport).asm = s.asm ∧ (s.passTurnToReport).seq = s.seq ∧ (s.passTurnToReport).hold = s.hold
     ∧ (s.passTurnToReport).stage = s.stage ∧ (s.passTurnToReport).lamp = s.lamp ∧ (s.passTurnToReport).plan = s.plan
     ∧ (s.passTurnToReport).down = s.down ∧ (s.passTurnToReport).report = s.report
     ∧ (s.passTurnToReport).clock = s.clock ∧ (s.passTurnToReport).straps = s.straps
     ∧ (s.passTurnToReport).pending = s.pending := by
  unfold State.passTurnToReport; split <;> simp

@[simp] theorem startTake_frame (s : State) (k : PlanSlot) :
    (s.startTake k).port = s.port ∧ (s.startTake k).reads = s.reads ∧ (s.startTake k).pwq = s.pwq
     ∧ (s.startTake k).merge = s.merge ∧ (s.startTake k).asm = s.asm ∧ (s.startTake k).seq = s.seq
     ∧ (s.startTake k).hold = s.hold ∧ (s.startTake k).stage = s.stage ∧ (s.startTake k).lamp = s.lamp
     ∧ (s.startTake k).report = s.report ∧ (s.startTake k).clock = s.clock ∧ (s.startTake k).straps = s.straps
     ∧ (s.startTake k).pending = s.pending := by
  unfold State.startTake; simp only []; split <;> simp

@[simp] theorem search_frame (s : State) :
    (s.search).port = s.port ∧ (s.search).reads = s.reads ∧ (s.search).pwq = s.pwq ∧ (s.search).merge = s.merge
     ∧ (s.search).asm = s.asm ∧ (s.search).seq = s.seq ∧ (s.search).hold = s.hold ∧ (s.search).stage = s.stage
     ∧ (s.search).lamp = s.lamp ∧ (s.search).report = s.report ∧ (s.search).clock = s.clock
     ∧ (s.search).straps = s.straps ∧ (s.search).pending = s.pending := by
  unfold State.search; split <;> simp

@[simp] theorem presentDeferred_frame (s : State) :
    (s.presentDeferred).port = s.port ∧ (s.presentDeferred).reads = s.reads ∧ (s.presentDeferred).pwq = s.pwq
     ∧ (s.presentDeferred).merge = s.merge ∧ (s.presentDeferred).asm = s.asm ∧ (s.presentDeferred).seq = s.seq
     ∧ (s.presentDeferred).hold = s.hold ∧ (s.presentDeferred).stage = s.stage ∧ (s.presentDeferred).lamp = s.lamp
     ∧ (s.presentDeferred).plan = s.plan ∧ (s.presentDeferred).report = s.report ∧ (s.presentDeferred).clock = s.clock
     ∧ (s.presentDeferred).straps = s.straps ∧ (s.presentDeferred).pending = s.pending := by
  unfold State.presentDeferred; split <;> simp

@[simp] theorem postWrite_frame (s : State) (c : WriteClass) (w : WriteReq) :
    (s.postWrite c w).lamp = s.lamp ∧ (s.postWrite c w).plan = s.plan ∧ (s.postWrite c w).down = s.down
     ∧ (s.postWrite c w).clock = s.clock ∧ (s.postWrite c w).straps = s.straps ∧ (s.postWrite c w).pending = s.pending := by
  unfold State.postWrite; simp only []; split <;> (try split) <;> simp

@[simp] theorem result_frame (s : State) (k : Take) (c : Code) (d : Nat) :
    (s.result k c d).port = s.port ∧ (s.result k c d).reads = s.reads ∧ (s.result k c d).pwq = s.pwq
     ∧ (s.result k c d).merge = s.merge ∧ (s.result k c d).asm = s.asm ∧ (s.result k c d).seq = s.seq
     ∧ (s.result k c d).hold = s.hold ∧ (s.result k c d).stage = s.stage ∧ (s.result k c d).lamp = s.lamp
     ∧ (s.result k c d).report = s.report ∧ (s.result k c d).clock = s.clock ∧ (s.result k c d).straps = s.straps
     ∧ (s.result k c d).pending = s.pending := by
  simp [State.result]

@[simp] theorem grant_frame (s : State) (c : ArbClass) :
    (s.grant c).port = s.port ∧ (s.grant c).merge = s.merge ∧ (s.grant c).asm = s.asm ∧ (s.grant c).seq = s.seq
     ∧ (s.grant c).hold = s.hold ∧ (s.grant c).stage = s.stage ∧ (s.grant c).lamp = s.lamp ∧ (s.grant c).plan = s.plan
     ∧ (s.grant c).report = s.report ∧ (s.grant c).clock = s.clock ∧ (s.grant c).straps = s.straps
     ∧ (s.grant c).pending = s.pending := by
  cases c <;> simp only [State.grant, State.grantRead, State.grantDrain, State.grantFetch] <;> split <;> simp

@[simp] theorem moveRotation_frame (s : State) (c : ArbClass) :
    (s.moveRotation c).port = s.port ∧ (s.moveRotation c).reads = s.reads ∧ (s.moveRotation c).pwq = s.pwq
     ∧ (s.moveRotation c).merge = s.merge ∧ (s.moveRotation c).asm = s.asm ∧ (s.moveRotation c).seq = s.seq
     ∧ (s.moveRotation c).hold = s.hold ∧ (s.moveRotation c).stage = s.stage ∧ (s.moveRotation c).lamp = s.lamp
     ∧ (s.moveRotation c).plan = s.plan ∧ (s.moveRotation c).report = s.report ∧ (s.moveRotation c).clock = s.clock
     ∧ (s.moveRotation c).straps = s.straps ∧ (s.moveRotation c).pending = s.pending := by
  unfold State.moveRotation; split <;> simp

@[simp] theorem charge_frame (s : State) (e : Entry) :
    (s.charge e).port = s.port ∧ (s.charge e).reads = s.reads ∧ (s.charge e).pwq = s.pwq
     ∧ (s.charge e).merge = s.merge ∧ (s.charge e).seq = s.seq ∧ (s.charge e).hold = s.hold
     ∧ (s.charge e).stage = s.stage ∧ (s.charge e).lamp = s.lamp ∧ (s.charge e).plan = s.plan
     ∧ (s.charge e).down = s.down ∧ (s.charge e).clock = s.clock ∧ (s.charge e).straps = s.straps
     ∧ (s.charge e).pending = s.pending := by
  unfold State.charge; split <;> (try split) <;> simp

@[simp] theorem dropCarrier_frame (s : State) (id : Nat) :
    (s.dropCarrier id).port = s.port ∧ (s.dropCarrier id).reads = s.reads ∧ (s.dropCarrier id).pwq = s.pwq
     ∧ (s.dropCarrier id).asm = s.asm ∧ (s.dropCarrier id).seq = s.seq ∧ (s.dropCarrier id).hold = s.hold
     ∧ (s.dropCarrier id).stage = s.stage ∧ (s.dropCarrier id).lamp = s.lamp ∧ (s.dropCarrier id).plan = s.plan
     ∧ (s.dropCarrier id).down = s.down ∧ (s.dropCarrier id).report = s.report ∧ (s.dropCarrier id).clock = s.clock
     ∧ (s.dropCarrier id).straps = s.straps ∧ (s.dropCarrier id).pending = s.pending := by
  unfold State.dropCarrier; split <;> simp

@[simp] theorem headerDrained_frame (s : State) (e : Entry) :
    (s.headerDrained e).port = s.port ∧ (s.headerDrained e).reads = s.reads ∧ (s.headerDrained e).pwq = s.pwq
     ∧ (s.headerDrained e).merge = s.merge ∧ (s.headerDrained e).asm = s.asm ∧ (s.headerDrained e).seq = s.seq
     ∧ (s.headerDrained e).hold = s.hold ∧ (s.headerDrained e).stage = s.stage ∧ (s.headerDrained e).lamp = s.lamp
     ∧ (s.headerDrained e).plan = s.plan ∧ (s.headerDrained e).down = s.down ∧ (s.headerDrained e).clock = s.clock
     ∧ (s.headerDrained e).straps = s.straps ∧ (s.headerDrained e).pending = s.pending := by
  unfold State.headerDrained; split <;> simp

@[simp] theorem deliverOf_frame (s : State) (e : Entry) :
    (s.deliverOf e).port = s.port ∧ (s.deliverOf e).merge = s.merge ∧ (s.deliverOf e).seq = s.seq
     ∧ (s.deliverOf e).stage = s.stage ∧ (s.deliverOf e).lamp = s.lamp ∧ (s.deliverOf e).plan = s.plan
     ∧ (s.deliverOf e).down = s.down ∧ (s.deliverOf e).clock = s.clock ∧ (s.deliverOf e).straps = s.straps
     ∧ (s.deliverOf e).pending = s.pending := by
  unfold State.deliverOf; split <;> simp

@[simp] theorem endTake_frame (s : State) (k : Take) :
    (s.endTake k).port = s.port ∧ (s.endTake k).reads = s.reads ∧ (s.endTake k).pwq = s.pwq
     ∧ (s.endTake k).merge = s.merge ∧ (s.endTake k).asm = s.asm ∧ (s.endTake k).seq = s.seq
     ∧ (s.endTake k).hold = s.hold ∧ (s.endTake k).stage = s.stage ∧ (s.endTake k).lamp = s.lamp
     ∧ (s.endTake k).report = s.report ∧ (s.endTake k).clock = s.clock ∧ (s.endTake k).straps = s.straps
     ∧ (s.endTake k).pending = s.pending := by
  simp [State.endTake]

@[simp] theorem takeInHand_frame (s : State) :
    (s.takeInHand).port = s.port ∧ (s.takeInHand).reads = s.reads ∧ (s.takeInHand).pwq = s.pwq
     ∧ (s.takeInHand).merge = s.merge ∧ (s.takeInHand).asm = s.asm ∧ (s.takeInHand).seq = s.seq
     ∧ (s.takeInHand).hold = s.hold ∧ (s.takeInHand).stage = s.stage ∧ (s.takeInHand).lamp = s.lamp
     ∧ (s.takeInHand).plan = s.plan ∧ (s.takeInHand).down = s.down ∧ (s.takeInHand).clock = s.clock
     ∧ (s.takeInHand).straps = s.straps ∧ (s.takeInHand).pending = s.pending := by
  unfold State.takeInHand; split <;> (try split) <;> simp

@[simp] theorem presentResult_frame (s : State) :
    (s.presentResult).port = s.port ∧ (s.presentResult).reads = s.reads ∧ (s.presentResult).pwq = s.pwq
     ∧ (s.presentResult).merge = s.merge ∧ (s.presentResult).asm = s.asm ∧ (s.presentResult).seq = s.seq
     ∧ (s.presentResult).hold = s.hold ∧ (s.presentResult).stage = s.stage ∧ (s.presentResult).lamp = s.lamp
     ∧ (s.presentResult).plan = s.plan ∧ (s.presentResult).down = s.down ∧ (s.presentResult).clock = s.clock
     ∧ (s.presentResult).straps = s.straps ∧ (s.presentResult).pending = s.pending := by
  unfold State.presentResult; split <;> simp

@[simp] theorem refresh_frame (s : State) :
    (Sys2Proof.Machine.refresh s).port = s.port ∧ (Sys2Proof.Machine.refresh s).reads = s.reads
     ∧ (Sys2Proof.Machine.refresh s).pwq = s.pwq ∧ (Sys2Proof.Machine.refresh s).merge = s.merge
     ∧ (Sys2Proof.Machine.refresh s).asm = s.asm ∧ (Sys2Proof.Machine.refresh s).seq = s.seq
     ∧ (Sys2Proof.Machine.refresh s).hold = s.hold ∧ (Sys2Proof.Machine.refresh s).stage = s.stage
     ∧ (Sys2Proof.Machine.refresh s).plan = s.plan ∧ (Sys2Proof.Machine.refresh s).down = s.down
     ∧ (Sys2Proof.Machine.refresh s).clock = s.clock ∧ (Sys2Proof.Machine.refresh s).straps = s.straps
     ∧ (Sys2Proof.Machine.refresh s).pending = s.pending := by
  simp [Sys2Proof.Machine.refresh]

@[simp] theorem conclude_frame (s : State) :
    (conclude s).port = s.port ∧ (conclude s).reads = s.reads ∧ (conclude s).pwq = s.pwq
     ∧ (conclude s).merge = s.merge ∧ (conclude s).asm = s.asm ∧ (conclude s).seq = s.seq
     ∧ (conclude s).hold = s.hold ∧ (conclude s).stage = s.stage ∧ (conclude s).lamp = s.lamp
     ∧ (conclude s).plan = s.plan ∧ (conclude s).down = s.down ∧ (conclude s).clock = s.clock
     ∧ (conclude s).straps = s.straps ∧ (conclude s).pending = s.pending := by
  simp [conclude, State.noteWait]

@[simp] theorem msTick_frame (s : State) :
    (s.msTick).port = s.port ∧ (s.msTick).reads = s.reads ∧ (s.msTick).pwq = s.pwq ∧ (s.msTick).merge = s.merge
     ∧ (s.msTick).asm = s.asm ∧ (s.msTick).seq = s.seq ∧ (s.msTick).hold = s.hold ∧ (s.msTick).stage = s.stage
     ∧ (s.msTick).plan = s.plan ∧ (s.msTick).down = s.down ∧ (s.msTick).report = s.report ∧ (s.msTick).clock = s.clock
     ∧ (s.msTick).straps = s.straps ∧ (s.msTick).pending = s.pending := by
  unfold State.msTick; split <;> simp

@[simp] theorem idleTimerExpiry_frame (s : State) :
    (Sys2Proof.Machine.idleTimerExpiry s).port = s.port ∧ (Sys2Proof.Machine.idleTimerExpiry s).reads = s.reads
     ∧ (Sys2Proof.Machine.idleTimerExpiry s).pwq = s.pwq ∧ (Sys2Proof.Machine.idleTimerExpiry s).merge = s.merge
     ∧ (Sys2Proof.Machine.idleTimerExpiry s).asm = s.asm ∧ (Sys2Proof.Machine.idleTimerExpiry s).seq = s.seq
     ∧ (Sys2Proof.Machine.idleTimerExpiry s).hold = s.hold ∧ (Sys2Proof.Machine.idleTimerExpiry s).stage = s.stage
     ∧ (Sys2Proof.Machine.idleTimerExpiry s).plan = s.plan ∧ (Sys2Proof.Machine.idleTimerExpiry s).down = s.down
     ∧ (Sys2Proof.Machine.idleTimerExpiry s).report = s.report ∧ (Sys2Proof.Machine.idleTimerExpiry s).clock = s.clock
     ∧ (Sys2Proof.Machine.idleTimerExpiry s).straps = s.straps
     ∧ (Sys2Proof.Machine.idleTimerExpiry s).pending = s.pending := by
  unfold Sys2Proof.Machine.idleTimerExpiry; split <;> (try split) <;> simp

@[simp] theorem heatStep_frame (s : State) :
    (Sys2Proof.Machine.heatStep s).port = s.port ∧ (Sys2Proof.Machine.heatStep s).reads = s.reads
     ∧ (Sys2Proof.Machine.heatStep s).pwq = s.pwq ∧ (Sys2Proof.Machine.heatStep s).merge = s.merge
     ∧ (Sys2Proof.Machine.heatStep s).seq = s.seq ∧ (Sys2Proof.Machine.heatStep s).hold = s.hold
     ∧ (Sys2Proof.Machine.heatStep s).stage = s.stage ∧ (Sys2Proof.Machine.heatStep s).plan = s.plan
     ∧ (Sys2Proof.Machine.heatStep s).down = s.down ∧ (Sys2Proof.Machine.heatStep s).report = s.report
     ∧ (Sys2Proof.Machine.heatStep s).clock = s.clock ∧ (Sys2Proof.Machine.heatStep s).straps = s.straps
     ∧ (Sys2Proof.Machine.heatStep s).pending = s.pending := by
  unfold Sys2Proof.Machine.heatStep; split <;> simp

@[simp] theorem heatTick_frame (s : State) :
    (Sys2Proof.Machine.heatTick s).port = s.port ∧ (Sys2Proof.Machine.heatTick s).reads = s.reads
     ∧ (Sys2Proof.Machine.heatTick s).pwq = s.pwq ∧ (Sys2Proof.Machine.heatTick s).merge = s.merge
     ∧ (Sys2Proof.Machine.heatTick s).seq = s.seq ∧ (Sys2Proof.Machine.heatTick s).hold = s.hold
     ∧ (Sys2Proof.Machine.heatTick s).stage = s.stage ∧ (Sys2Proof.Machine.heatTick s).plan = s.plan
     ∧ (Sys2Proof.Machine.heatTick s).down = s.down ∧ (Sys2Proof.Machine.heatTick s).report = s.report
     ∧ (Sys2Proof.Machine.heatTick s).straps = s.straps ∧ (Sys2Proof.Machine.heatTick s).pending = s.pending := by
  unfold Sys2Proof.Machine.heatTick; split <;> (try simp only []; try split) <;> (try split) <;> simp

@[simp] theorem arming_frame (s : State) :
    (Sys2Proof.Machine.arming s).port = s.port ∧ (Sys2Proof.Machine.arming s).reads = s.reads
     ∧ (Sys2Proof.Machine.arming s).pwq = s.pwq ∧ (Sys2Proof.Machine.arming s).hold = s.hold
     ∧ (Sys2Proof.Machine.arming s).plan = s.plan ∧ (Sys2Proof.Machine.arming s).down = s.down
     ∧ (Sys2Proof.Machine.arming s).clock = s.clock ∧ (Sys2Proof.Machine.arming s).straps = s.straps
     ∧ (Sys2Proof.Machine.arming s).pending = s.pending := by
  unfold Sys2Proof.Machine.arming; split <;> (try split) <;> (try split) <;> simp

@[simp] theorem arbiterGrant_frame (s : State) :
    (Sys2Proof.Machine.arbiterGrant s).port = s.port ∧ (Sys2Proof.Machine.arbiterGrant s).merge = s.merge
     ∧ (Sys2Proof.Machine.arbiterGrant s).asm = s.asm ∧ (Sys2Proof.Machine.arbiterGrant s).seq = s.seq
     ∧ (Sys2Proof.Machine.arbiterGrant s).hold = s.hold ∧ (Sys2Proof.Machine.arbiterGrant s).stage = s.stage
     ∧ (Sys2Proof.Machine.arbiterGrant s).lamp = s.lamp ∧ (Sys2Proof.Machine.arbiterGrant s).plan = s.plan
     ∧ (Sys2Proof.Machine.arbiterGrant s).report = s.report ∧ (Sys2Proof.Machine.arbiterGrant s).clock = s.clock
     ∧ (Sys2Proof.Machine.arbiterGrant s).straps = s.straps ∧ (Sys2Proof.Machine.arbiterGrant s).pending = s.pending := by
  unfold Sys2Proof.Machine.arbiterGrant; split <;> simp

@[simp] theorem dismissReservation_frame (s : State) :
    (Sys2Proof.Machine.dismissReservation s).port = s.port ∧ (Sys2Proof.Machine.dismissReservation s).lamp = s.lamp
     ∧ (Sys2Proof.Machine.dismissReservation s).clock = s.clock
     ∧ (Sys2Proof.Machine.dismissReservation s).straps = s.straps
     ∧ (Sys2Proof.Machine.dismissReservation s).pending = s.pending := by
  unfold Sys2Proof.Machine.dismissReservation; split <;> simp
end Sys2Proof.Machine
end

