-- ==== Sys2Proof/Laws/Ops.lean ====
section
/-! SUPPORT. What each shared operation does, said once: its whole effect, or everything it can answer. -/

namespace Sys2Proof.Machine

/-! ### Queue writes and the queue -/

theorem lineWrite_some {ws src ref q} (h : lineWrite ws src ref = some q) :
    q.source = src ∧ q.tileRef = ref ∧ q.header = none ∧ anyByte q.bytes = true := by
  cases ws with
  | nil => simp [lineWrite] at h
  | cons w ws =>
    simp only [lineWrite] at h
    split at h
    · cases h; simp_all
    · cases h

theorem placeOne_plain (q : QWrite) (s : State) (h : q.tileRef = none) :
    s.placeOne q = { s with pwq := s.pwq.place q } := by simp [State.placeOne, h]

/-- One write fits when it merges or an entry is free (R110). -/
theorem canPlace_one (s : State) (q : QWrite) :
    s.canPlace [q] = true ↔ (s.pwq.hasWaiting q.line = true ∨ s.pwq.entries.length < 16) := by
  cases h : s.pwq.hasWaiting q.line <;> simp [State.canPlace, Pwq.need, Pwq.free, h, Config.pwqPlaces]
  omega

theorem mergeIf_takes (w : QWrite) (e : Entry) (line : Nat) : (e.mergeIf w).takes line = e.takes line := by
  unfold Entry.mergeIf
  split <;> simp [Entry.takes, Entry.merge]

/-- A placement leaves every line that had a WAITING entry with one. -/
theorem place_hasWaiting (q : Pwq) (w : QWrite) (line : Nat) (h : q.hasWaiting line = true) :
    (q.place w).hasWaiting line = true := by
  unfold Pwq.place
  split
  · simpa [Pwq.hasWaiting, mergeIf_takes] using h
  · simp only [Pwq.hasWaiting, List.any_append, Bool.or_eq_true] at *
    exact .inl h

theorem place_length (q : Pwq) (w : QWrite) :
    (q.place w).entries.length = q.entries.length + (if q.hasWaiting w.line then 0 else 1) := by
  unfold Pwq.place
  split <;> simp [*]

theorem need_cons (q : Pwq) (w : QWrite) (ws : List QWrite) :
    q.need (w :: ws) = (if q.hasWaiting w.line then 0 else 1) + q.need ws := by
  cases h : q.hasWaiting w.line <;> simp [Pwq.need, h]
  omega

theorem need_place_le (q : Pwq) (w : QWrite) (ws : List QWrite) : (q.place w).need ws ≤ q.need ws := by
  induction ws with
  | nil => simp [Pwq.need]
  | cons x ws ih =>
    rw [need_cons, need_cons]
    cases h : q.hasWaiting x.line
    · split <;> simp <;> omega
    · simp [place_hasWaiting q w x.line h, ih]

/-- The queue writes of one taking open no more entries than their need (R112). -/
theorem placeAll_length (ws : List QWrite) (s : State) :
    (s.placeAll ws).pwq.entries.length ≤ s.pwq.entries.length + s.pwq.need ws := by
  induction ws generalizing s with
  | nil => simp [State.placeAll]
  | cons w ws ih =>
    have h1 := ih (s.placeOne w)
    have h2 := need_place_le s.pwq w ws
    have h3 := place_length s.pwq w
    rw [need_cons]
    simp only [placeOne_pwq] at h1
    show ((s.placeOne w).placeAll ws).pwq.entries.length ≤ _
    omega

/-! ### Requests -/

theorem State.Takes.present {w : WriteReq} {s : State} (h : s.Takes w) : s.presentWrite w = s.decodeWrite w := by
  have hb : s.blocked w.master = false := by simp [State.blocked, h.flag, h.free]
  simp [State.presentWrite, hb, h.fits, h.free]

theorem State.TakesRead.present {r : ReadReq} {s : State} (h : s.TakesRead r) : s.presentRead r = s.decodeRead r := by
  have hb : s.blocked r.master = false := by simp [State.blocked, h.flag, h.free]
  simp [State.presentRead, hb, h.fits]

/-- A write that is neither a capture nor refused has one queue write at most, to its own line (R100). -/
theorem queueWrites_plain (c : WriteClass) (h : c ≠ .capture) (h' : c ≠ .heldWrite) (w : WriteReq) (s : State) :
    s.queueWrites c w = (lineWrite (writeWords w) .upstream none).toList := by
  cases c <;> simp_all [State.queueWrites]

theorem enterWrite_plain (c : WriteClass) (h : c ≠ .capture) (w : WriteReq) (s : State) :
    s.enterWrite c w = s.placeAll (s.queueWrites c w) := by
  cases c <;> simp_all [State.enterWrite]

/-- The whole effect of posting a PLAIN, POST or CONSUME write (R100, R101). -/
theorem postWrite_plain (c : WriteClass) (h : c ≠ .capture) (h' : c ≠ .heldWrite) (w : WriteReq) (s : State) :
    s.postWrite c w = s.postedOrHeld c w := by
  unfold State.postWrite State.postedOrHeld
  simp only [queueWrites_plain c h h', enterWrite_plain c h]
  cases hl : lineWrite (writeWords w) .upstream none with
  | none => simp [State.canPlace, Pwq.need, State.placeAll, State.answer, State.answeredOnly, State.answered]
  | some q =>
    simp only [Option.toList, canPlace_one]
    split
    · simp [State.placeAll, placeOne_plain _ _ (lineWrite_some hl).2.1, State.passTurnToReport, State.answer,
        State.posted, State.answered]
      split <;> simp_all
    · simp only [State.holdWrite, State.withHeld]
      split <;> rfl

theorem holdOf_none {s : State} {line : Nat}
    (h : ∀ (g : HoldNo) (x : Hold), s.hold.pool[g] = some x → inRange (x.base, x.size) line = false) :
    s.holdOf line = none := by
  simp only [State.holdOf, List.find?_eq_none]
  intro g _
  cases hp : s.hold.pool[g] with
  | none => simp
  | some x => simp [h g x hp]

theorem holdOf_some {s : State} {line : Nat} {g : HoldNo} (h : s.holdOf line = some g) :
    ∃ x, s.hold.pool[g] = some x ∧ inRange (x.base, x.size) line = true := by
  have := List.find?_some h
  cases hp : s.hold.pool[g] with
  | none => simp [hp] at this
  | some x => exact ⟨x, rfl, by simpa [hp] using this⟩

/-! ### Takes -/

theorem presentFetch_eq (k : PlanSlot) (line : Fin 8) (s : State) :
    s.presentFetch k line = { s with down := { s.down with fetch := s.presented k line } } := by
  have h : s.planLine k line = s.straps.toNat * 1048576 + k.val * 256 + 32 * line.val := rfl
  simp only [State.presentFetch, State.presented, Pwq.snapshot, h]
  try
    generalize (s.pwq.entries.filter _).map _ = ids
    cases ids <;> rfl

theorem startTake_eq (k : PlanSlot) (s : State) : s.startTake k = s.takeStarted k := by
  unfold State.startTake State.takeStarted
  have hp : ∀ pl, State.postHeld { s with plan := pl } k = s.postHeld k := fun _ => rfl
  simp only [hp]
  split
  · rfl
  · rw [presentFetch_eq]
    rfl

theorem nextPosted_of_first {p : Plan} {k : PlanSlot} (h : p.FirstPosted k) : p.nextPosted = some k := by
  obtain ⟨i, hi, rfl, hk, hj⟩ := h
  unfold Plan.nextPosted
  rw [List.find?_eq_some_iff_append]
  refine ⟨hk, (List.range i).map fun i => p.takeIndex + Fin.ofNat 32 i,
    (List.range' (i + 1) (32 - (i + 1))).map fun i => p.takeIndex + Fin.ofNat 32 i, ?_, ?_⟩
  · rw [← List.map_cons (f := fun i => p.takeIndex + Fin.ofNat 32 i), ← List.map_append]
    congr 1
    rw [List.range_eq_range', List.range_eq_range']
    have h32 : 32 = i + (1 + (32 - (i + 1))) := by omega
    conv_lhs => rw [h32]
    rw [← List.range'_append_1, ← List.range'_append_1]
    simp
  · intro a ha
    simp only [List.mem_map, List.mem_range] at ha
    obtain ⟨j, hjl, rfl⟩ := ha
    show (!p.posted[p.takeIndex + Fin.ofNat 32 j]) = true
    rw [hj j hjl]
    rfl

theorem search_of_first {s : State} {k : PlanSlot} (h : s.plan.take = none) (hk : s.plan.FirstPosted k) :
    s.search = s.takeStarted k := by
  simp [State.search, h, nextPosted_of_first hk, startTake_eq]

theorem search_of_take {s : State} {k : Take} (h : s.plan.take = some k) : s.search = s := by
  simp [State.search, h]

theorem fetched_some {s : State} {kind : Kind} {k : Take} (h : s.fetched kind = some k) :
    s.plan.take = some k ∧ k.step = .fetched ∧ k.kind = some kind := by
  unfold State.fetched at h
  rw [Option.filter_eq_some_iff] at h
  simpa using h

/-- The number of a record kind in its post word (Table 9-2). -/
def Kind.number : Kind → Nat
  | .station => 1
  | .plate => 2
  | .retake => 3
  | .dismiss => 4

theorem kindField_of_kind {k : Take} {kind : Kind} (h : k.kind = some kind) : k.kindField = kind.number := by
  unfold Take.kind at h
  cases hp : k.post with
  | none => simp [hp] at h
  | some w =>
    simp only [hp, Option.bind_some, kindOf] at h
    simp only [Take.kindField, hp, Option.getD_some]
    repeat' split at h
    all_goals cases h
    all_goals subst_vars; rfl

theorem result_eq {s : State} {k : Take} (code : Code) (d : Nat) (h : s.plan.take = some k) :
    s.result k code d = s.withResult k (resultWord k.kindField code d) := by
  simp [State.result, State.finishTake, State.withResult, h]

theorem slotField_of_val {ws : List Word} {p : SlotNo} (h : p.val = (wordAt ws 0).toNat) : slotField ws = some p := by
  simp [slotField, ← h]

theorem slotField_of_big {ws : List Word} (h : 4 ≤ (wordAt ws 0).toNat) : slotField ws = none := by
  simp [slotField]
  omega

theorem namedPlate_some {s : State} {p : SlotNo} {tag : Word} {plate : Plate} (h : s.namedPlate p tag = some plate) :
    s.asm.plates[p] = some plate ∧ (plate.state = .assembling ∨ plate.state = .complete) ∧ plate.tag = tag := by
  unfold State.namedPlate at h
  rw [Option.filter_eq_some_iff] at h
  simpa using h

/-! ### The sequencer's tile -/

theorem currentTile_some {s : State} {t : TileNo} {tile : Tile} {plate : Plate} :
    s.currentTile = some (t, tile, plate) ↔
      s.seq.current = some t ∧ s.asm.tiles[t] = some tile ∧ s.asm.plates[tile.slot] = some plate
        ∧ tile.active = true := by
  unfold State.currentTile
  constructor
  · intro h
    split at h
    · cases h
    split at h
    · cases h
    split at h
    · cases h
    split at h
    · simp only [Option.some.injEq, Prod.mk.injEq] at h
      obtain ⟨rfl, rfl, rfl⟩ := h
      simp_all
    · cases h
  · rintro ⟨h1, h2, h3, h4⟩
    simp_all

theorem currentTile_idle {s : State} (h : s.seq.current = none) : s.currentTile = none := by
  simp [State.currentTile, h]

theorem abort_idle {s : State} (r : Reason) (h : s.currentTile = none) : s.abort r = s := by
  simp [State.abort, h]

/-! ### Records and levels -/

@[simp] theorem offer_report_rest (s : State) (r : Record) :
    (s.offer r).report.produce = s.report.produce ∧ (s.offer r).report.drained = s.report.drained
      ∧ (s.offer r).report.consume = s.report.consume ∧ (s.offer r).report.reserved = s.report.reserved
      ∧ (s.offer r).report.ready = s.report.ready ∧ (s.offer r).report.waits = s.report.waits
      ∧ (s.offer r).report.irq = s.report.irq := by
  unfold State.offer
  split <;> (try split) <;> simp

@[simp] theorem takeInHand_report_rest (s : State) :
    s.takeInHand.report.produce = s.report.produce ∧ s.takeInHand.report.drained = s.report.drained
      ∧ s.takeInHand.report.consume = s.report.consume ∧ s.takeInHand.report.queue = s.report.queue
      ∧ s.takeInHand.report.reserved = s.report.reserved ∧ s.takeInHand.report.dropped = s.report.dropped
      ∧ s.takeInHand.report.waits = s.report.waits ∧ s.takeInHand.report.irq = s.report.irq := by
  unfold State.takeInHand
  split <;> (try split) <;> simp

@[simp] theorem presentResult_report_rest (s : State) :
    s.presentResult.report.produce = s.report.produce ∧ s.presentResult.report.drained = s.report.drained
      ∧ s.presentResult.report.consume = s.report.consume ∧ s.presentResult.report.queue = s.report.queue
      ∧ s.presentResult.report.reserved = s.report.reserved ∧ s.presentResult.report.dropped = s.report.dropped
      ∧ s.presentResult.report.waits = s.report.waits ∧ s.presentResult.report.irq = s.report.irq := by
  unfold State.presentResult
  split <;> simp

@[simp] theorem refresh_report_rest (s : State) :
    (refresh s).report.produce = s.report.produce ∧ (refresh s).report.drained = s.report.drained
      ∧ (refresh s).report.consume = s.report.consume ∧ (refresh s).report.queue = s.report.queue
      ∧ (refresh s).report.reserved = s.report.reserved ∧ (refresh s).report.dropped = s.report.dropped
      ∧ (refresh s).report.irq = s.report.irq := by
  simp [refresh, State.noteWait]

@[simp] theorem conclude_report_rest (s : State) :
    (conclude s).report.produce = s.report.produce ∧ (conclude s).report.drained = s.report.drained
      ∧ (conclude s).report.consume = s.report.consume ∧ (conclude s).report.queue = s.report.queue
      ∧ (conclude s).report.reserved = s.report.reserved ∧ (conclude s).report.dropped = s.report.dropped
      ∧ (conclude s).report.irq = s.report.irq := by
  simp [conclude, State.noteWait]

/-- The end of a step leaves a ready list that is the old one, or the old one with the result word behind it. -/
theorem conclude_ready (s : State) :
    (conclude s).report.ready =
      s.report.ready ++ if s.resultDue = true ∧ ReadyLine.result ∉ s.report.ready then [.result] else [] := by
  by_cases h : s.resultDue = true <;> by_cases g : ReadyLine.result ∈ s.report.ready <;>
    simp [conclude, State.noteWait, State.presentResult, h, g]

@[simp] theorem refresh_lamp_rest (s : State) :
    (refresh s).lamp.on = s.lamp.on ∧ (refresh s).lamp.applied = s.lamp.applied
      ∧ (refresh s).lamp.counter = s.lamp.counter ∧ (refresh s).lamp.period = s.lamp.period
      ∧ (refresh s).lamp.idleTimer = s.lamp.idleTimer ∧ (refresh s).lamp.heat = s.lamp.heat
      ∧ (refresh s).lamp.zone = s.lamp.zone := by
  simp [refresh]

end Sys2Proof.Machine
end

