-- ==== Sys2Proof/Laws/Step.lean ====
section
/-! SUPPORT. A command is its effect with the levels brought up to date, and what can happen in one step. -/

namespace Sys2Proof.Machine

theorem exec_eq (c : Instr) (s : State) : exec c s = .next (finish (effect c s)) := by
  cases c
  case upstreamRequestFault r => cases r <;> rfl
  all_goals rfl

theorem step_pending {c : Instr} {rest : List Instr} {s : State} (h : s.pending = c :: rest) :
    step s = .next (finish (effect c { s with pending := rest })) := by
  simp [step, h, exec_eq]

/-- A fold over a list keeps what each of its turns keeps. -/
theorem foldl_inv {α : Type} (P : State → Prop) (g : State → α → State) (h : ∀ s x, P s → P (g s x)) (l : List α)
    (s : State) (hs : P s) : P (l.foldl g s) := by
  induction l generalizing s with
  | nil => exact hs
  | cons x l ih => exact ih _ (h s x hs)

/-- What follows is a command's effect; nothing else acts there. -/
theorem followUp_effect (c : Instr) (s : State) : followUp c s = effect c s ∨ followUp c s = s := by
  cases c <;> first
    | (left; simp only [followUp, effect]; done)
    | (right; simp only [followUp])

theorem settle_of_done {s : State} (h : s.follows = []) (n : Nat) : settle n s = s := by
  induction n with
  | zero => rfl
  | succ n _ => simp [settle, h]

/-- With nothing left to follow, the step ends once its levels are brought up to date. -/
theorem finish_of_done {s : State} (h : (refresh s).follows = []) : finish s = conclude (refresh s) :=
  congrArg conclude (settle_of_done h _)

/-- What follows in a step keeps a law that drawing and each thing that follows keep. -/
theorem settle_keeps (P : State → Prop) (hdraw : ∀ n s, P s → P (s.draw n))
    (hf : ∀ c s, P s → P (refresh (followUp c s))) (n : Nat) (s : State) (h : P s) : P (settle n s) := by
  induction n generalizing s with
  | zero => exact h
  | succ n ih =>
    unfold settle
    split
    · exact h
    · refine ih _ ?_
      unfold State.follow
      split
      · exact h
      · exact hf _ _ h
      · exact hf _ _ (hdraw _ _ h)

/-- The same of a law that every command's effect keeps. -/
theorem finish_keeps (P : State → Prop) (hdraw : ∀ n s, P s → P (s.draw n))
    (heff : ∀ c s, P s → P (refresh (effect c s))) (href : ∀ s, P s → P (refresh s))
    (hend : ∀ s, P s → P (conclude s)) (s : State) (h : P (refresh s)) : P (finish s) := by
  refine hend _ (settle_keeps P hdraw (fun c s hs => ?_) _ _ h)
  rcases followUp_effect c s with h | h <;> rw [h]
  · exact heff c s hs
  · exact href s hs

/-- An event of the clock is its command's effect, or the heat model's part of one; nothing else acts there. -/
theorem clockEvent_effect (c : Instr) (s : State) :
    clockEvent c s = effect c s ∨ clockEvent c s = heatStep s ∨ clockEvent c s = s := by
  cases c <;> first
    | (left; simp only [clockEvent, lineEvent, effect]; done)
    | (right; left; simp only [clockEvent]; done)
    | (right; right; simp only [clockEvent, lineEvent])

/-- A CLK cycle keeps a law that counting, drawing, a command's effect, the heat model, `refresh` and the end of
a step keep. -/
theorem clkCycle_keeps (P : State → Prop) (hadv : ∀ k s, P s → P (s.advance k)) (hdraw : ∀ n s, P s → P (s.draw n))
    (heff : ∀ c s, P s → P (refresh (effect c s))) (hheat : ∀ s, P s → P (refresh (heatStep s)))
    (href : ∀ s, P s → P (refresh s)) (hend : ∀ s, P s → P (conclude s)) (s : State) (h : P s) : P (clkCycle s) := by
  unfold clkCycle
  refine finish_keeps P hdraw heff href hend _ (href _ (foldl_inv P _ (fun u c hu => ?_) _ _ (hdraw _ _ (hadv _ _ h))))
  unfold State.takeDue
  split
  · refine finish_keeps P hdraw heff href hend _ ?_
    rcases clockEvent_effect c u with h | h | h <;> rw [h]
    · exact heff c u hu
    · exact hheat u hu
    · exact href u hu
  · exact hu

/-- A law of the machine is kept by every step when every command keeps it, on any queue of commands, and so do counting,
drawing, the heat model and the end of a step. -/
theorem step_keeps (P : State → Prop) (hpend : ∀ q s, P s → P { s with pending := q })
    (hadv : ∀ k s, P s → P (s.advance k)) (hdraw : ∀ n s, P s → P (s.draw n))
    (heff : ∀ c s, P s → P (refresh (effect c s))) (hheat : ∀ s, P s → P (refresh (heatStep s)))
    (href : ∀ s, P s → P (refresh s)) (hend : ∀ s, P s → P (conclude s)) (s t : State) (h : P s)
    (ht : step s = .next t) : P t := by
  have hex : ∀ c s, P s → P (finish (effect c s)) := fun c s hs => finish_keeps P hdraw heff href hend _ (heff c s hs)
  unfold step at ht
  split at ht
  · unfold idle at ht
    split at ht
    · cases ht
      exact clkCycle_keeps P hadv hdraw heff hheat href hend s h
    · rw [exec_eq] at ht
      cases ht
      exact hex _ _ h
  · rw [exec_eq] at ht
    cases ht
    exact hex _ _ (hpend _ _ h)

end Sys2Proof.Machine
end

