-- ==== Sys2Proof/Tests/Slice0.lean ====
section
/-! SUPPORT. Tests: the shape check refuses ill-formed commands, the spec's worked examples in single steps, and for every
statement with hypotheses a state that meets them. -/

namespace Sys2Proof.Tests

open Sys2Proof.Machine

/-! ## WellFormed refuses an ill-formed command of each row with a check -/

def wr (m : Master) (a : Nat) (bs : List Beat) : WriteReq := { master := m, addr := BitVec.ofNat 32 a, beats := bs }
def rd (m : Master) (a n : Nat) : ReadReq := { master := m, addr := BitVec.ofNat 32 a, beats := n }
def full (d : Nat) : Beat := { data := BitVec.ofNat 32 d, be := 15 }

theorem test_wf_fault_needs_a_misfit : WellFormed (.upstreamRequestFault (.write (wr 0 28 [full 1]))) = false := by decide
theorem test_wf_fault_read_beats : WellFormed (.upstreamRequestFault (.read (rd 0 2 9))) = false := by decide
theorem test_wf_post_zero : WellFormed (.post (wr 0 252 [full 0])) = false := by decide
theorem test_wf_withdrawal_nonzero : WellFormed (.withdrawal (wr 0 252 [full 1])) = false := by decide
theorem test_wf_consume_enables : WellFormed (.consume (wr 0 4 [{ data := 0, be := 7 }])) = false := by decide
theorem test_wf_capture_line : WellFormed (.capture (wr 1 28 [full 0, full 0])) = false := by decide
theorem test_wf_held_write_aligned : WellFormed (.heldWrite (wr 0 1 [full 0])) = false := by decide
theorem test_wf_held_read_beats : WellFormed (.heldRead (rd 0 0 0)) = false := by decide
theorem test_wf_plain_write_beats : WellFormed (.plainWrite (wr 0 0 [])) = false := by decide
theorem test_wf_plain_read_line : WellFormed (.plainRead (rd 0 4 8)) = false := by decide
theorem test_wf_read_response_words : WellFormed (.upstreamReadResponse 0 .ok []) = false := by decide
theorem test_wf_fetch_response_words : WellFormed (.fetchResponse .ok [0]) = false := by decide
theorem test_wf_unmatched_words : WellFormed (.unmatchedResponse .fetch .ok (List.replicate 9 0)) = false := by decide
theorem test_wf_accepts :
    WellFormed (.post (wr 0 252 [full 1])) = true ∧ WellFormed (.plainRead (rd 3 0 8)) = true
      ∧ WellFormed (.upstreamRequestFault (.write (wr 0 28 [full 1, full 2]))) = true := by decide

/-- No word spells a command, and the state stays as it is (log entry 21). -/
theorem test_no_word_spells_a_command (s : State) (n w : Nat) :
    decodeTableWord n w = none ∧ s.withFetchWord n w = s := ⟨rfl, rfl⟩

/-! ## States -/

/-- Table 12-1 as a STATION record (Table 11-2). -/
def stationBody : List Word :=
  [100, 1, 0x20000000, 0x100000, 0x0E000000, 64, 0, 100, 1000 + 50 * 65536, 5 + 6 * 256 + 10 * 65536 + 8 * 16777216,
    40000 + 38000 * 65536, 1000 + 500 * 65536, 200 + 500 * 65536, 0, 0, 0]

/-- Table 12-2 as a PLATE record (Table 11-3). -/
def plateBody : List Word :=
  [0x777, 2, 2, 1024, 512, 8, 8, 16, 16, 0x40000000, 4096, 0, 2,
    250 + 2 * 65536, 4000 + 150 * 65536, 600 + 4 * 65536, 3900 + 60 * 65536, 0, 0, 0, 0,
    10000, 20000, 8000, 6000, 4, 1, 0, 0, 0, 0, 0]

/-- A plate of one tile of 16 × 16 samples, one exposure, no retry, under PASS. -/
def smallBody : List Word :=
  [0x2A, 1, 1, 16, 16, 0, 0, 0, 0, 0x60000000, 32, 0, 1,
    100, 4000 + 100 * 65536, 0, 0, 0, 0, 0, 0, 0, 0, 0, 0, 255, 0, 1, 0, 0, 0, 0]

/-- A CONFIGURED station, nothing resident; straps 0x0F0. -/
def cfg : State :=
  { State.reset with straps := 0x0F0, plan := { State.reset.plan with station := some (stationOf stationBody) } }

def smallPlate : Plate := plateOf smallBody [some 0] [0]
def smallTile : Tile := newTile 0 1 0

/-- The small plate resident in slot 0, its tile PENDING. -/
def resident : State :=
  ((cfg.setPlate 0 (some smallPlate)).setTile 0 (some smallTile)).setHold 0 (some (holdFor 0 smallPlate 0))

/-- The tile in a state of the exposure path, in the sequencer with its two places. -/
def busyIn (st : TileState) : State :=
  let s := resident.setTile 0 (some { smallTile with state := st, reservation := 2 })
  { s with
    seq := { s.seq with current := some 0, moveok := false }
    stage := { s.stage with watched := some ⟨0, 0, 255⟩ }
    report := { s.report with reserved := 2 }
    lamp := { s.lamp with requested := 100, fromTile := true, period := 1000 } }

def smallExposing : Tile := { smallTile with state := .exposing, reservation := 2 }

/-- Its frame OPEN. -/
def exposingNow : State := { busyIn .exposing with merge := { (busyIn .exposing).merge with frame := .opened } }

/-- The lamp ON with the tile ARMED and its duty requested. -/
def armedOn : State := { busyIn .armed with lamp := { (busyIn .armed).lamp with on := true } }

/-- The tile CLOSING, IDLE, its two places kept. -/
def closingIn (o : ClosingOutcome) (heat : Option Nat) : State :=
  { resident.setTile 0 (some { smallTile with state := .closing o heat, reservation := 2 }) with
    report := { resident.report with reserved := 2 } }

/-- A record of a kind fetched in slot 5, and the take as it stands. -/
def takeOf (kind : Nat) (body : List Word) : Take :=
  { slot := 5, step := .fetched, post := some (BitVec.ofNat 32 kind), body := body }
def fetchedIn (s : State) (kind : Nat) (body : List Word) : State :=
  { s with plan := { s.plan with take := some (takeOf kind body) } }

/-- An entry of a line with one word. -/
def entry (id line : Nat) : Entry := newEntry id ⟨line, wordBytes 0 7 15, .upstream, none, none⟩

/-- A queue of n entries of different lines. -/
def queueOf (n : Nat) : Pwq := { entries := (List.range n).map fun i => entry i (0x1000 + 32 * i), nextId := n }

def withQueue (s : State) (n : Nat) : State := { s with pwq := queueOf n }

def headDraining (s : State) (e : Entry) : State :=
  { s with pwq := { entries := [{ e with state := .draining }, entry 9 0x9000], nextId := 10 } }

/-- The outcome is a next state that passes a test. -/
def nextHas (o : Host.Outcome State Fault Refusal) (p : State → Bool) : Bool :=
  match o with
  | .next t => p t
  | _ => false

/-! ## Worked examples -/

/-- Table 12-1 and 12-2 pass every check. -/
theorem test_worked_records_pass :
    firstFailing (stationChecks stationBody) = none ∧ firstFailing (plateChecks plateBody) = none := by decide

/-- Table 1-7: the beat of exposure 1. -/
def table16 : FrameCtx :=
  { window := 0x20000000
    geo := { rows := 2, cols := 3, width := 2048, height := 1536, top := 16, bottom := 16, left := 32, right := 32
             imageBase := 0x40000000, pitch := 12288 }
    proofBase := some 0x50000000, exposure := { duty := 700, step := 3, clip := 3800, floor := 40 }
    index := 4, row := 1, col := 1, first := false, tile := 4 }
def scan0 : Scan :=
  { counter := 102439, dark := 12, clip := 3, stray := 0, complete := false, image := [], proof := [], strays := [] }
def beat16 : WordWrite := { addr := 0x200640A0, data := 0x34B00FD2, be := 15 }

theorem test_table_1_7 :
    Scan.beat (some table16) scan0 beat16 =
      { scan0 with counter := 102440, clip := 4, image := [{ addr := 0x4129CFE0, data := 0x09601FA4, be := 12 }] } := by
  decide

/-- The same beat in exposure 0: both lanes written, and the proof write. -/
theorem test_table_1_7_exposure_0 :
    let c := { table16 with first := true, exposure := { duty := 300, step := 1, clip := 4000, floor := 100 } }
    Scan.beat (some c) scan0 beat16 =
      { scan0 with
        counter := 102440, clip := 4
        image := [{ addr := 0x4129CFE0, data := 0x25807E90, be := 15 }]
        proof := [{ beat16 with addr := 0x518640A0 }] } := by decide

/-- Tables 5-6 and 5-7: steps 1 to 3 of line 0x00801000, and the drain of entry C. -/
def lineC : Pwq :=
  let put := fun (q : Pwq) (w : WriteReq) => (lineWrite (writeWords w) .upstream none).elim q q.place
  put (put (put { entries := [entry 0 0x20, entry 1 0x40], nextId := 2 } (wr 0 0x801008 [full 0x11111111, full 0x22222222]))
    (wr 3 0x801010 [{ data := 0xABCD, be := 3 }])) (wr 0 0x80100C [{ data := 0x33330000, be := 12 }])

theorem test_table_5_7 :
    lineC.entries.length = 3 ∧ lineC.entries.getLast?.map Entry.drainTxn =
      some (.write 0x801008 [full 0x11111111, full 0x33332222, { data := 0xABCD, be := 3 }]) := by decide

/-- Table 9-5, step 4: the result word of a FETCH_FAULT with kind 4; step 9's result word. -/
theorem test_result_words :
    resultWord 4 .fetchFault 0 = 0x80000A04 ∧ resultWord 2 .accepted 1 = 0x80010002 := by decide

/-- Table 10-3: the consume values 10, 7 and 6. -/
theorem test_table_10_3 :
    consumeValid 16 4 5 10 = true ∧ consumeValid 16 6 10 7 = false ∧ consumeValid 16 6 10 6 = true := by decide

/-- Table 8-5: the heat ticks at 300, 1300, 2300 and 3300. -/
theorem test_table_8_5 :
    nextHeat 2990 5 100 = 2997 ∧ nextHeat 2997 5 100 = 3004 ∧ nextHeat 3004 5 40 = 2951
      ∧ nextHeat 2951 5 40 = 2899 := by decide

/-- R196: a capture master of 0x00000102 fails its check, at word 1. -/
theorem test_whole_word_fields : firstFailing (stationChecks (stationBody.set 1 0x102)) = some 1 := by decide

/-- TILE_DONE of 12.5: tile 1 with one exposure, skipped, and the pair (0, 95) (Table 11-8). -/
theorem test_tile_done_words :
    Record.words (.tileDone 0 1 0x777 1 true 0 0 [(0, 95)] 0x1234) false =
      [0x01000001, 0x777, 9, 95 * 65536, 0, 0, 0, 0x1234] := by decide

/-- The MOTION abort's TILE_FAULT of 12.5, with the DROPPED mark. -/
theorem test_tile_fault_words :
    Record.words (.tileFault 0 2 0x777 0 .motion 1 false) true = [0x02008002, 0x777, 0x00010100, 0, 0, 0, 0, 0] := by
  decide

/-! ## States that meet the hypotheses of the statements -/

theorem test_meets_StepRunsFrontCommand :
    ({ cfg with pending := [.heatTick, .arming] } : State).pending = .heatTick :: [.arming] := by decide

theorem test_meets_MisalignedRequestIsFaulted :
    ((wr 0 2 [full 0]).addr.toNat % 4 ≠ 0 ∧ 32 < (wr 0 28 [full 0, full 0]).addr.toNat % 32 + 4 * 2)
      ∧ ((rd 0 3 1).addr.toNat % 4 ≠ 0 ∧ 32 < (rd 0 4 8).addr.toNat % 32 + 4 * (rd 0 4 8).beats) := by decide

/-- A full queue of 16 entries, with a PLAIN write of master 3 held. -/
def heldNow : State :=
  { withQueue cfg 16 with port := { cfg.port with held := some { req := wr 3 0x2000 [full 1], cls := .plain } } }

/-- Master 2 has a read outstanding downstream. -/
def readOut : State :=
  { cfg with
    port := { cfg.port with outstanding := cfg.port.outstanding.set 2 true }
    reads := { cfg.reads with out := [{ master := 2, addr := 0x1000, beats := 1, stale := false }] } }

theorem test_meets_BlockedRequestsAreNotTaken :
    readOut.port.outstanding[(wr 2 0x3000 [full 1]).master] = true
      ∧ heldNow.port.held.any (·.req.master == (rd 3 0x3000 1).master) = true
      ∧ fitsLine (wr 0 0x3000 [full 1]).addr 1 = true ∧ fitsLine (rd 3 0x301C 1).addr 1 = true
      ∧ heldNow.port.held.isSome = true := by decide

/-- A misaligned write of a master whose write is held is answered FAULT (R98). -/
theorem test_misfit_of_a_blocked_master :
    nextHas (exec (.plainWrite (wr 3 0x2002 [full 1])) heldNow) (fun t =>
      t.port.answers == [{ master := 3, status := .fault, data := [] }] && t.port.held == heldNow.port.held) = true := by
  decide

theorem test_meets_IdleStepIsAnOwnStepOrOneCycle :
    cfg.pending = [] ∧ cfg.ownStep = none
      ∧ ({ cfg with report := { cfg.report with ready := [.header 0x0E000000 0 true] } } : State).ownStep
        = some .headerLineEntry := by decide

theorem test_meets_WritesAreClassedInOrder :
    (fullBeatAt (wr 0 0x0F0000FC [full 1]) (cfg.straps.toNat * 1048576 + 252) = some 1)
    ∧ (fullBeatAt (wr 0 0x0F001FFC [full 0]) (cfg.straps.toNat * 1048576 + 31 * 256 + 252) = some 0
      ∧ ∀ j < (31 : PlanSlot), fullBeatAt (wr 0 0x0F001FFC [full 0])
        (cfg.straps.toNat * 1048576 + j.val * 256 + 252) = none)
    ∧ (State.reset.plan.station = none
      ∧ ∀ k : PlanSlot, fullBeatAt (wr 0 0x1000 [full 0]) (0 * 1048576 + k.val * 256 + 252) = none)
    ∧ (fullBeatAt (wr 0 0x0E000000 [full 9, full 3]) 0x0E000004 = some 3 ∧ (stationOf stationBody).reportBase = 0x0E000000)
    ∧ (let st := stationOf stationBody
       st.captureMaster = 1 ∧ st.windowBase = 0x20000000 ∧ 0x200FFFE0 < st.windowBase + st.windowLength)
    ∧ ∃ x, resident.hold.pool[(0 : HoldNo)] = some x ∧ x.base = 0x60000000 ∧ x.size = 512 := by
  refine ⟨by decide, by decide, by decide, by decide, by decide, holdFor 0 smallPlate 0, by decide⟩

theorem test_meets_PlainWriteIsPosted :
    cfg.Takes (wr 0 0x1000 [full 7]) ∧ cfg.classify (wr 0 0x1000 [full 7]) = .plain
    ∧ fitsLine (wr 0 0x101C [full 7]).addr 1 = true
    ∧ (∃ q, lineWrite (writeWords (wr 0 0x101C [full 7])) .upstream none = some q)
    ∧ lineWrite (writeWords (wr 0 0x101C [{ data := 7, be := 0 }])) .upstream none = none :=
  ⟨⟨by decide, by decide, by decide⟩, by decide, by decide,
    ⟨⟨0x1000, wordBytes 7 7 15, .upstream, none, none⟩, by decide⟩, by decide⟩

theorem test_meets_QueueWriteMergesOrOpens :
    lineC.hasWaiting 0x801000 = true ∧ lineC.hasWaiting 0x801020 = false
      ∧ (lineC.entries[2]?.map fun e => (e.line, e.state)) = some (0x801000, .waiting)
      ∧ (lineC.entries[0]?.map (·.line)) = some 0x20
      ∧ (withQueue exposingNow 2).seq.current = some 0
      ∧ (withQueue exposingNow 2).pwq.entries = [entry 0 0x1000] ++ entry 1 0x1020 :: []
      ∧ (entry 1 0x1020).state = .waiting ∧ (entry 0 0x1000).line ≠ 0x1020 := by decide

/-- An image write of the current tile moves the last-carrier reference to its entry (R23). -/
theorem test_last_carrier :
    let image : Nat → QWrite := fun line => ⟨line, wordBytes 0 1 15, .merge, some 0, none⟩
    ((withQueue exposingNow 2).placeOne (image 0x1000)).merge.lastCarrier = some 0
      ∧ (((withQueue exposingNow 2).placeOne (image 0x9000)).placeOne (image 0x1000)).merge.lastCarrier = some 2 := by
  decide

theorem test_meets_PostWritesMoveTheFlags :
    (cfg.Takes (wr 0 0x0F0005FC [full 2]) ∧ (fetchedIn cfg 1 stationBody).Takes (wr 0 0x0F0005FC [full 2]))
    ∧ cfg.classify (wr 0 0x0F0005FC [full 2]) = .post 5 2 ∧ cfg.plan.take = none
    ∧ ({ cfg.plan with posted := cfg.plan.posted.set 5 true } : Plan).FirstPosted 5
    ∧ (fetchedIn cfg 1 stationBody).classify (wr 0 0x0F0005FC [full 2]) = .post 5 2
    ∧ (fetchedIn cfg 1 stationBody).plan.take = some (takeOf 1 stationBody)
    ∧ cfg.classify (wr 0 0x0F001FFC [full 0]) = .post 31 0 :=
  ⟨⟨⟨by decide, by decide, by decide⟩, ⟨by decide, by decide, by decide⟩⟩, by decide, by decide,
    ⟨5, by decide, by decide, by decide, by decide⟩, by decide, by decide, by decide⟩

theorem test_meets_ConsumeMovesTheIndex :
    cfg.Takes (wr 0 0x0E000004 [full 0]) ∧ cfg.classify (wr 0 0x0E000004 [full 0]) = .consume 0
    ∧ cfg.plan.station = some (stationOf stationBody) ∧ cfg.report.consume < 64 ∧ cfg.report.drained < 64
    ∧ ((0 : Int) < 64 ∧ ((0 : Int) - 0) % 64 ≤ (0 - 0) % 64)
    ∧ cfg.classify (wr 0 0x0E000004 [full 64]) = .consume 64 ∧ cfg.classify (wr 0 0x0E000004 [full 1]) = .consume 1 :=
  ⟨⟨by decide, by decide, by decide⟩, by decide, by decide, by decide, by decide, by decide, by decide, by decide⟩

theorem test_meets_HeldWriteIsRefused :
    resident.Takes (wr 0 0x600001FC [full 0]) ∧ resident.classify (wr 0 0x600001FC [full 0]) = .heldWrite :=
  ⟨⟨by decide, by decide, by decide⟩, by decide⟩

/-- 16 records queued. -/
def fullReports : State := { cfg with report := { cfg.report with queue := List.replicate 16 (.cutChange true 0) } }

theorem test_meets_DroppableRecordIsQueuedOrDropped :
    State.reset.plan.station = none ∧ cfg.plan.station.isSome = true
      ∧ exposingNow.report.queue.length + exposingNow.report.reserved < 16
      ∧ 16 ≤ fullReports.report.queue.length + fullReports.report.reserved := by decide

theorem test_meets_ReadsAreForwardedOrHeld_snapshot :
    ((withQueue cfg 3).pwq.entries.filter (·.line == (0x1040 : BitVec 32).toNat / 32 * 32)).map (·.id) = [2]
      ∧ ((withQueue cfg 3).pwq.entries.filter (·.line == (0x1060 : BitVec 32).toNat / 32 * 32)).map (·.id) = [] := by
  decide

/-- The small plate's hold under WAIT. -/
def waitHold : State := resident.setHold 0 (some { holdFor 0 smallPlate 0 with policy := .wait })

theorem test_meets_ReadsAreForwardedOrHeld :
    (resident.TakesRead (rd 2 0x60000200 8) ∧ ∀ (h : HoldNo), ∀ x ∈ resident.hold.pool[h],
      ¬(x.base ≤ (rd 2 0x60000200 8).addr.toNat / 32 * 32 ∧ (rd 2 0x60000200 8).addr.toNat / 32 * 32 < x.base + x.size))
    ∧ (resident.TakesRead (rd 2 0x600001FC 1) ∧ resident.hold.pool[(0 : HoldNo)] = some (holdFor 0 smallPlate 0)
      ∧ (holdFor 0 smallPlate 0).policy = .pass
      ∧ (∀ (g : HoldNo), ∀ y ∈ resident.hold.pool[g], y.base ≤ 0x600001E0 → 0x600001E0 < y.base + y.size → g = 0))
    ∧ waitHold.TakesRead (rd 2 0x60000000 8)
      ∧ waitHold.hold.pool[(0 : HoldNo)] = some { holdFor 0 smallPlate 0 with policy := .wait } :=
  ⟨⟨⟨by decide, by decide, by decide⟩, by decide⟩, ⟨⟨by decide, by decide, by decide⟩, by decide, by decide, by decide⟩,
    ⟨by decide, by decide, by decide⟩, by decide⟩

/-! ### Captures -/

def cap (n : Nat) (b : Beat) : WriteReq := wr 1 0x20000000 (List.replicate n b)
/-- A queue write of the capture's own line. -/
def capLine : QWrite := ⟨0x20000000, wordBytes 0 1 15, .upstream, none, none⟩

theorem test_meets_CaptureOutsideFrameIsStray :
    (cfg.Takes (cap 1 (full 1)) ∧ (withQueue cfg 16).Takes (cap 1 (full 1)))
    ∧ cfg.classify (cap 1 (full 1)) = .capture ∧ (withQueue cfg 16).classify (cap 1 (full 1)) = .capture
    ∧ cfg.merge.frame = .closed ∧ (cap 1 (full 1)).beats ≠ []
    ∧ lineWrite (writeWords (cap 1 (full 1))) .upstream none = some capLine
    ∧ cfg.Room capLine ∧ ¬(withQueue cfg 16).Room capLine
    ∧ lineWrite (writeWords (cap 1 { data := 1, be := 0 })) .upstream none = none :=
  ⟨⟨⟨by decide, by decide, by decide⟩, ⟨by decide, by decide, by decide⟩⟩, by decide, by decide, by decide, by decide,
    by decide, .inr (by decide), by unfold State.Room; decide, by decide⟩

theorem test_meets_CaptureIntoOpenFrame :
    (exposingNow.Takes (cap 8 (full 0x00050005)) ∧ (withQueue exposingNow 16).Takes (cap 8 (full 0x00050005)))
    ∧ exposingNow.classify (cap 8 (full 0x00050005)) = .capture
    ∧ (withQueue exposingNow 16).classify (cap 8 (full 0x00050005)) = .capture
    ∧ (let sc := exposingNow.translate (cap 8 (full 0x00050005))
       let ws := sc.writes exposingNow.seq.current
       exposingNow.pwq.need ws = 1 ∧ exposingNow.pwq.free = 16 ∧ sc.complete = false ∧ sc.dark = 16)
    ∧ (withQueue exposingNow 16).pwq.free
      < (withQueue exposingNow 16).pwq.need (((withQueue exposingNow 16).translate (cap 8 (full 0x00050005))).writes
        (withQueue exposingNow 16).seq.current) :=
  ⟨⟨⟨by decide, by decide, by decide⟩, ⟨by decide, by decide, by decide⟩⟩, by decide, by decide, by decide, by decide⟩

/-- The OPEN frame's context, and a queue write of one word. -/
theorem test_meets_CaptureIntoOpenFrame_context :
    exposingNow.merge.frame = .opened ∧ exposingNow.currentTile = some (0, smallExposing, smallPlate)
      ∧ exposingNow.plan.station = some (stationOf stationBody)
      ∧ smallPlate.bracket[exposingNow.merge.exposure]? = some { duty := 100, step := 0, clip := 4000, floor := 100 }
      ∧ cfg.merge.frame = .closed
      ∧ lineWrite [{ addr := 0x20000004, data := 1, be := 15 }] .merge (some 0)
        = some ⟨0x20000000, wordBytes 1 1 15, .merge, some 0, none⟩
      ∧ lineWrite [{ addr := 0x20000004, data := 1, be := 0 }] .merge (some 0) = none := by decide

/-- A capture of exposure 0 of a plate with a proof base: image write, proof write, then the stray write (R19). -/
theorem test_capture_writes :
    let proofed := exposingNow.modPlate 0 fun p => { p with proofBase := some 0x70000000 }
    let sc := (State.translate (cap 2 (full 0x00050005))
      { proofed with merge := { proofed.merge with counter := 127 } })
    (sc.writes (some 0)).map (fun q => (q.line, q.source, q.tileRef)) =
      [(0x60000000, .merge, some 0), (0x70000000, .merge, some 0), (0x20000000, .upstream, none)] := by decide

theorem test_meets_CaptureBeatsAreTranslated :
    beat16.addr = table16.window + 4 * 102440 ∧ 102440 < table16.geo.frameWords
      ∧ scan0.complete = false ∧ ({ table16 with first := true } : FrameCtx).first = true
      ∧ table16.proofBase = some 0x50000000 ∧ table16.window - 4 < table16.window
      ∧ table16.geo.frameWords ≤ (0x20600000 - table16.window) / 4 ∧ (0x20600000 - 4 - table16.window) / 4 < 1572864 := by
  decide

/-- One beat short of its 128 frame words; a dark count of 0, and of 7. -/
def lastBeat (dark : Nat) : State :=
  { exposingNow with merge := { exposingNow.merge with counter := 127, dark := dark, lastCarrier := some 0 } }
/-- The same of a plate with two exposures. -/
def twoExposures (dark : Nat) : State :=
  (lastBeat dark).modPlate 0 fun p => { p with bracket := p.bracket ++ [{ duty := 200, step := 1, clip := 9, floor := 1 }] }

theorem test_meets_CompletionFollowsTheSkipRule :
    (∀ d ∈ [0, 7], ∀ s ∈ [lastBeat d, twoExposures d],
      s.port.outstanding[(1 : Master)] = false ∧ s.port.held = none
      ∧ s.classify (cap 1 (full 0x07FF07FF)) = .capture
      ∧ (let sc := s.translate (cap 1 (full 0x07FF07FF))
         s.pwq.need (sc.writes s.seq.current) ≤ s.pwq.free ∧ sc.complete = true ∧ sc.dark = d)
      ∧ s.currentTile.isSome = true
      ∧ (s.placeAll ((s.translate (cap 1 (full 0x07FF07FF))).writes s.seq.current)).merge.lastCarrier = some 0)
    ∧ fitsLine (cap 1 (full 0x07FF07FF)).addr 1 = true
    ∧ (twoExposures 7).merge.exposure + 1 < ((twoExposures 7).currentTile.map (·.2.2.bracket.length)).getD 0
    ∧ ¬((lastBeat 7).merge.exposure + 1 < ((lastBeat 7).currentTile.map (·.2.2.bracket.length)).getD 0) := by decide

/-- The last beat comes with no enable set while no entry holds a write of the tile: no last carrier (R24). -/
theorem test_meets_CompletionFollowsTheSkipRule_retired :
    let s : State := { lastBeat 7 with merge := { (lastBeat 7).merge with lastCarrier := none } }
    let w := cap 1 { data := 0, be := 0 }
    s.port.outstanding[(1 : Master)] = false ∧ s.port.held = none ∧ fitsLine w.addr 1 = true
      ∧ s.classify w = .capture ∧ (s.translate w).complete = true ∧ (s.translate w).writes s.seq.current = []
      ∧ (s.placeAll []).merge.lastCarrier = none ∧ s.currentTile.isSome = true := by decide

/-! ### The tail of the queue -/

/-- A CAPTURE write held, with its tile EXPOSING. -/
def heldCapture : State :=
  { exposingNow with port := { exposingNow.port with held := some { req := cap 8 (full 0x00050005), cls := .capture } } }

theorem test_meets_HeldWriteEnters :
    (let s : State := { heldNow with pwq := queueOf 15 }
     s.port.held = some { req := wr 3 0x2000 [full 1], cls := .plain }
      ∧ lineWrite (writeWords (wr 3 0x2000 [full 1])) .upstream none = some ⟨0x2000, wordBytes 0 1 15, .upstream, none, none⟩
      ∧ s.pwq.entries.length = 15 ∧ s.report.waits = false ∧ s.down.fetch = .idle)
    ∧ (heldNow.pwq.entries.length = 16 ∧ heldNow.pwq.hasWaiting 0x2000 = false)
    ∧ (let s : State := { fetchedIn heldNow 2 [] with down := { heldNow.down with fetch := .deferred }, pwq := queueOf 15 }
       s.plan.take = some (takeOf 2 []) ∧ s.down.fetch = .deferred)
    ∧ heldCapture.port.held = some { req := cap 8 (full 0x00050005), cls := .capture }
    ∧ heldCapture.down.fetch ≠ .deferred
    ∧ heldCapture.pwq.need ((heldCapture.translate (cap 8 (full 0x00050005))).writes heldCapture.seq.current) = 1
    ∧ heldCapture.pwq.free = 16 ∧ heldCapture.report.waits = false
    ∧ (heldCapture.translate (cap 8 (full 0x00050005))).complete = false
    ∧ exposingNow.classify (cap 8 (full 0x00050005)) = .capture ∧ exposingNow.port.held = none := by decide

/-- A held CAPTURE write waits at a full queue, and while the tail turn keeps the free entries for the other side. -/
theorem test_meets_HeldWriteEnters_waits :
    let full' : State := { heldCapture with pwq := queueOf 16 }
    let kept : State := { heldCapture with
      port := { heldCapture.port with turn := .report }, report := { heldCapture.report with waits := true } }
    full'.pwq.free < full'.pwq.need ((full'.translate (cap 8 (full 0x00050005))).writes full'.seq.current)
      ∧ kept.report.waits = true ∧ kept.port.turn = .report
      ∧ kept.pwq.need ((kept.translate (cap 8 (full 0x00050005))).writes kept.seq.current) ≠ 0
      ∧ full'.port.held = heldCapture.port.held ∧ kept.port.held = heldCapture.port.held := by decide

/-- Table 10-3's ring position, with a record in hand and one entry free. -/
def lineReady (l : ReadyLine) (n : Nat) : State :=
  { withQueue cfg n with report := { cfg.report with
      produce := 63, consume := 5, queue := [.cutChange true 0], ready := [l] } }

theorem test_meets_ReportLinesEnter :
    (lineReady .record 15).plan.station = some (stationOf stationBody)
      ∧ (lineReady .record 15).report.queue = [.cutChange true 0] ∧ (lineReady .record 15).report.ready = [.record]
      ∧ (lineReady (.header 0x0E000000 1 true) 15).report.ready = [.header 0x0E000000 1 true]
      ∧ (lineReady (.newHeader 0x0E000000) 15).report.ready = [.newHeader 0x0E000000]
      ∧ (∀ l ∈ [.record, .header 0x0E000000 1 true, .newHeader 0x0E000000], (lineReady l 15).pwq.entries.length < 16
        ∧ (lineReady l 15).port.held.isSome = false)
      ∧ (lineReady .record 16).pwq.hasWaiting 0x0E000800 = false ∧ ¬(lineReady .record 16).pwq.entries.length < 16 := by
  decide

/-- A take that has ended but for its result word. -/
def resultReady (n : Nat) : State :=
  { withQueue cfg n with
    report := { cfg.report with ready := [.result] }
    plan := { cfg.plan with
      take := some { takeOf 2 [] with step := .finished 0x80000002 }, posted := cfg.plan.posted.set 4 true } }

theorem test_meets_ResultWordEndsTheTake :
    ((resultReady 15).report.ready = [.result]
      ∧ (resultReady 15).plan.take = some { takeOf 2 [] with step := .finished 0x80000002 }
      ∧ (resultReady 15).pwq.entries.length < 16 ∧ (resultReady 15).port.held = none)
    ∧ ({ (resultReady 15).plan with take := none, takeIndex := 6 } : Plan).FirstPosted 4
    ∧ (∀ j : PlanSlot, (cfg.plan.posted)[j] = false)
    ∧ ((resultReady 16).pwq.hasWaiting 0x0F0005E0 = false ∧ ¬(resultReady 16).pwq.entries.length < 16) :=
  ⟨by decide, ⟨30, by decide, by decide, by decide, by decide⟩, by decide, by decide⟩

theorem test_meets_ReportLinesCarryTheirWords :
    (stationOf stationBody).reportBase % 32 = 0 ∧ (7 : Nat) < 8 ∧ (3 : Nat) < 4
      ∧ (63 : Nat) < 64 ∧ (4 : Nat) < 8 ∧ (255 : Nat) < 256 ∧ (65535 : Nat) < 65536 ∧ [(0, 95)].length = 1
      ∧ Source.plan ≠ .report := by decide

/-! ### Downstream -/

/-- Tables 6-3 and 6-4 at their start, with n entries: two reads, the head, and a fetch of slot 5. -/
def requestsAt (n : Nat) (mode : ArbMode) : State :=
  { withQueue (fetchedIn cfg 2 []) n with
    reads := { cfg.reads with ready := [⟨2, 0x100, 1, false⟩, ⟨0, 0x200, 1, false⟩] }
    down := { cfg.down with fetch := .ready 7 }
    plan := { (fetchedIn cfg 2 []).plan with
      station := some { stationOf stationBody with mode := mode }, take := some { takeOf 2 [] with step := .fetching } } }

theorem test_table_6_3 :
    (requestsAt 13 .fixed).grantClass = some .drain ∧ (requestsAt 11 .fixed).grantClass = some .read
      ∧ (requestsAt 13 .fixed).grantDrain.grantClass = some .read
      ∧ (requestsAt 13 .fixed).grantDrain.grantRead.grantRead.grantClass = some .fetch
      ∧ (requestsAt 13 .fixed).grantDrain.grantRead.grantRead.grantFetch.grantClass = none := by decide

theorem test_table_6_4 :
    (arbiterGrant (requestsAt 13 .rotate)).down.rotation = .drain
      ∧ (arbiterGrant (requestsAt 13 .rotate)).reads.out = [⟨2, 0x100, 1, false⟩]
      ∧ (arbiterGrant (arbiterGrant (requestsAt 13 .rotate))).down.rotation = .fetch
      ∧ (arbiterGrant (arbiterGrant (requestsAt 13 .rotate))).grantClass = some .fetch := by decide

/-- A grant that finds no request is made to the first one that appears (R127). -/
theorem test_standing_grant :
    nextHas (exec .arbiterGrant cfg) (fun t => t.down.accept && nextHas (exec (.plainRead (rd 2 0x1000 1)) t) fun u =>
      !u.down.accept && u.reads.out == [⟨2, 0x1000, 1, false⟩]) = true := by decide

theorem test_meets_GrantsFollowTheMode :
    (requestsAt 12 .fixed).arbMode = .fixed ∧ 12 ≤ (requestsAt 12 .fixed).pwq.entries.length
      ∧ (requestsAt 12 .fixed).requests .drain = true ∧ (requestsAt 11 .fixed).requests .read = true
      ∧ ¬12 ≤ (requestsAt 11 .fixed).pwq.entries.length ∧ cfg.grantClass = none
      ∧ (requestsAt 12 .rotate).arbMode = .rotate ∧ (requestsAt 12 .rotate).down.rotation = .read := by decide

theorem test_meets_GrantIssuesOneTransaction :
    (requestsAt 1 .fixed).reads.ready = [⟨2, 0x100, 1, false⟩, ⟨0, 0x200, 1, false⟩]
      ∧ (requestsAt 1 .fixed).pwq.entries = [entry 0 0x1000] ∧ (requestsAt 1 .fixed).down.fetch = .ready 7
      ∧ (requestsAt 1 .fixed).plan.take = some { takeOf 2 [] with step := .fetching } := by decide

theorem test_meets_DrainSpansTheEnabledWords :
    (∃ j < 4, ∃ b, ({ entry 0 0 with bytes := wordBytes 7 7 15 } : Entry).bytes[4 * 7 + j]? = some (some b))
    ∧ ∀ i, (∃ j < 4, ∃ b, ({ entry 0 0 with bytes := wordBytes 7 7 15 } : Entry).bytes[4 * i + j]? = some (some b)) →
      7 ≤ i ∧ i ≤ 7 := by
  refine ⟨⟨0, by decide, 7, by decide⟩, ?_⟩
  rintro i ⟨j, hj, b, hb⟩
  have hi : i < 8 := by
    by_contra hn
    rw [Vector.getElem?_eq_none (by omega)] at hb
    cases hb
  have key : ∀ i < 8, ∀ j < 4, i ≠ 7 → (wordBytes 7 7 15)[4 * i + j]? = some none := by decide
  by_contra hn
  have := key i hi j hj (by omega)
  simp only at hb
  rw [this] at hb
  cases hb

/-- The head DRAINING with a fence of tile 0, a tile reference and a header of the ring, and a read waiting for it. -/
def retiring (ref fence : Option TileNo) (source : Source) (header : Option Nat) : State :=
  let s := headDraining (closingIn .done (some 7)) { entry 3 0x1000 with
    tileRef := ref, fence := fence, source := source, header := header }
  { s with reads := { s.reads with waiting := [{ read := ⟨2, 0x1000, 1, false⟩, snapshot := [3] }] } }

theorem test_meets_DrainRetires :
    ∀ ref ∈ [none, some 0], ∀ fence ∈ [none, some 0], ∀ source ∈ [Source.report, .merge], ∀ header ∈ [none, some 1],
      ((retiring ref fence source header).pwq.entries.head?.map (·.state)) = some .draining := by decide

theorem test_meets_ResponsesFindTheirTransaction :
    (readOut.reads.out = [] ++ ⟨2, 0x1000, 1, false⟩ :: []
      ∧ ∀ x ∈ ([] ++ [] : List PortRead), x.master ≠ 2)
    ∧ (∀ r ∈ readOut.reads.out, r.master ≠ 3) ∧ (∀ line, cfg.down.fetch ≠ .outstanding line)
    ∧ (∀ e ∈ (withQueue cfg 1).pwq.entries.head?, e.state = .waiting) := by decide

/-- A line read of slot 5 outstanding. -/
def lineOut (line : Fin 8) (post : Option Word) : State :=
  { cfg with
    down := { cfg.down with fetch := .outstanding line }
    plan := { cfg.plan with take := some { takeOf 0 [] with step := .fetching, post := post } } }

theorem test_meets_FetchResponseMovesTheTake :
    ((lineOut 7 none).down.fetch = .outstanding 7
      ∧ (lineOut 7 none).plan.take = some { takeOf 0 [] with step := .fetching, post := none })
    ∧ (List.replicate 8 (4 : Word)).length = 8 ∧ kindOf 4 = some .dismiss ∧ kindOf 5 = none ∧ kindOf 1 = some .station
    ∧ ({ takeOf 0 [] with step := .fetching, post := some 1 } : Take).kind = some .station
    ∧ (0 : Fin 8).val + 1 < Kind.station.lines ∧ Kind.station.lines ≤ (1 : Fin 8).val + 1
    ∧ (lineOut 1 (some 1)).down.fetch = .outstanding 1 ∧ (1 : Fin 8) ≠ 7 := by decide

/-- A FAULT without data on line 7 ends the take with FETCH_FAULT and kind 0 (R174). -/
theorem test_fetch_fault_without_data :
    nextHas (exec (.fetchResponse .fault []) (lineOut 7 none)) (fun t =>
      t.plan.take.map (·.step) == some (.finished (resultWord 0 .fetchFault 0)) && t.report.ready == [.result]) = true := by
  decide

/-! ### Plan records -/

theorem test_station_accepted :
    let t := finish (stationRecord { fetchedIn State.reset 1 stationBody with straps := 0x0F0 })
    t.plan.station = some (stationOf stationBody) ∧ t.report.ready = [.newHeader 0x0E000000, .result] := by decide

theorem test_plate_accepted :
    let t := plateRecord (fetchedIn cfg 2 plateBody)
    t.freeTiles.head? = some 4 ∧ t.freeHolds.head? = some 2
      ∧ (t.hold.pool[(1 : HoldNo)].map fun h => (h.base, h.base + h.size)) = some (0x401F0000, 0x403E0000)
      ∧ t.plan.take.map (·.step) = some (.finished 0x80000002) := by decide

theorem test_meets_RefusedRecordsChangeNothing :
    ((fetchedIn cfg 1 stationBody).fetched .station = some (takeOf 1 stationBody)
      ∧ firstFailing (stationChecks (stationBody.set 9 0)) = some 9
      ∧ cfg.stationApart (stationOf (stationBody.set 2 0x0E000000)) = false
      ∧ firstFailing (stationChecks (stationBody.set 2 0x0E000000)) = none
      ∧ resident.stationApart (stationOf stationBody) = true ∧ (∃ x, resident.asm.plates[(0 : SlotNo)] = some x))
    ∧ ((fetchedIn State.reset 2 plateBody).fetched .plate = some (takeOf 2 plateBody)
      ∧ State.reset.plan.station = none ∧ cfg.plan.station = some (stationOf stationBody)
      ∧ firstFailing (plateChecks (plateBody.set 27 2)) = some 27
      ∧ resident.plateApart (stationOf stationBody) (recordPlate smallBody) = false
      ∧ firstFailing (plateChecks smallBody) = none
      ∧ cfg.plateApart (stationOf stationBody) (recordPlate plateBody) = true
      ∧ ({ cfg with asm := { cfg.asm with plates := Vector.replicate 4 (some smallPlate) } } : State).freeSlots = [])
    ∧ ((fetchedIn resident 3 [0, 0x2A, 0]).fetched .retake = some (takeOf 3 [0, 0x2A, 0])
      ∧ 4 ≤ (wordAt [4] 0).toNat ∧ (3 : SlotNo).val = (wordAt [3] 0).toNat
      ∧ resident.namedPlate 0 0x2B = none ∧ resident.namedPlate 0 0x2A = some smallPlate
      ∧ smallPlate.tiles.length ≤ (wordAt [0, 0x2A, 1] 2).toNat ∧ smallPlate.tiles[0]? = some 0
      ∧ resident.asm.tiles[(0 : TileNo)] = some smallTile ∧ smallTile.final = false
      ∧ ({ smallTile with state := .done } : Tile).final = true
      ∧ ({ smallPlate with bandHolds := [none] } : Plate).bandHold 0 = none
      ∧ ({ cfg with hold := { cfg.hold with pool := Vector.replicate 16 (some (holdFor 0 smallPlate 0)) } } : State).freeHolds
        = []) :=
  ⟨⟨by decide, by decide, by decide, by decide, by decide, ⟨smallPlate, by decide⟩⟩, by decide, by decide⟩

/-- UNCONFIGURED, with the lines of X at a run count of 8: under the record's depth of 8 they complete. -/
def ripe : State :=
  { State.reset with stage := { State.reset.stage with
      xa := { raw := true, level := false, run := 8 }, cut := { raw := true, level := false, run := 7 } } }

theorem test_meets_StationRecordIsAccepted :
    let s : State := { fetchedIn ripe 1 stationBody with straps := 0x0F0 }
    s.fetched .station = some (takeOf 1 stationBody) ∧ firstFailing (stationChecks stationBody) = none
      ∧ s.stationApart (stationOf stationBody) = true ∧ (∀ p : SlotNo, s.asm.plates[p] = none)
      ∧ s.report.queue = [] ∧ s.seq.current = none
      ∧ s.stage.dueEvents (stationOf stationBody).filterDepth = [.validTransition .x .a]
      ∧ State.reset.stage.dueEvents (stationOf stationBody).filterDepth = [] := by decide

theorem test_meets_PlateRecordIsAccepted :
    (fetchedIn cfg 2 plateBody).fetched .plate = some (takeOf 2 plateBody)
      ∧ (fetchedIn cfg 2 plateBody).plan.station = some (stationOf stationBody)
      ∧ firstFailing (plateChecks plateBody) = none
      ∧ (fetchedIn cfg 2 plateBody).plateApart (stationOf stationBody) (recordPlate plateBody) = true
      ∧ (fetchedIn cfg 2 plateBody).freeSlots = 0 :: [1, 2, 3]
      ∧ (geometryOf plateBody).tiles ≤ (fetchedIn cfg 2 plateBody).freeTiles.length
      ∧ (geometryOf plateBody).rows ≤ (fetchedIn cfg 2 plateBody).freeHolds.length := by decide

theorem test_meets_AcceptedPlateFieldsAreInRange :
    firstFailing (plateChecks (smallBody.set 11 0x70000000)) = none
      ∧ (recordPlate (smallBody.set 11 0x70000000)).proofBase = some 0x70000000 := by decide

/-- The small plate with its tile final: DONE with its band's hold gone, or kept. -/
def finalIn (hold : Option HoldNo) : State :=
  (resident.setTile 0 (some { smallTile with state := .done })).setPlate 0
    (some { smallPlate with state := .complete, tilesDone := 1, bandHolds := [hold] })

theorem test_meets_RetakeRecordIsAccepted :
    ∀ hold ∈ [none, some 0],
      (fetchedIn (finalIn hold) 3 [0, 0x2A, 0]).fetched .retake = some (takeOf 3 [0, 0x2A, 0])
      ∧ (finalIn hold).plan.station.isSome = true ∧ (0 : SlotNo).val = (wordAt [0, 0x2A, 0] 0).toNat
      ∧ (finalIn hold).namedPlate 0 0x2A
        = some { smallPlate with state := .complete, tilesDone := 1, bandHolds := [hold] }
      ∧ smallPlate.tiles[(wordAt [0, 0x2A, 0] 2).toNat]? = some 0
      ∧ (finalIn hold).asm.tiles[(0 : TileNo)] = some { smallTile with state := .done }
      ∧ ({ smallPlate with bandHolds := [hold] } : Plate).bandHold 0 = hold
      ∧ (finalIn none).freeHolds.head? = some 1 := by decide

theorem test_meets_DismissWaitsAndFreesACompletePlate :
    (fetchedIn resident 4 [0, 0x2A]).fetched .dismiss = some (takeOf 4 [0, 0x2A])
      ∧ (fetchedIn State.reset 4 [0, 0x2A]).plan.station = none ∧ 4 ≤ (wordAt [4, 0x2A] 0).toNat
      ∧ (0 : SlotNo).val = (wordAt [0, 0x2A] 0).toNat ∧ resident.namedPlate 0 0x2B = none
      ∧ (resident.namedPlate 0 0x2A).isSome = true := by decide

/-- A DISMISS of slot 0 that waits for its place. -/
def waitingDismiss (s : State) : State :=
  { s with plan := { s.plan with take := some { takeOf 4 [0, 0x2A] with step := .waitingReservation } } }

theorem test_meets_DismissWaitsAndFreesACompletePlate_complete :
    (waitingDismiss (finalIn none)).plan.take = some { takeOf 4 [0, 0x2A] with step := .waitingReservation }
      ∧ (0 : SlotNo).val = (wordAt [0, 0x2A] 0).toNat
      ∧ ((waitingDismiss (finalIn none)).asm.plates[(0 : SlotNo)].map (·.state)) = some .complete
      ∧ (waitingDismiss (finalIn none)).report.queue.length + (waitingDismiss (finalIn none)).report.reserved < 16 := by
  decide

/-! ### The laws at a busy state -/

theorem small_bands (b : Nat) (h : HoldNo) (hb : smallPlate.bandHold b = some h) : b = 0 ∧ h = 0 := by
  rcases b with _ | b
  · revert h
    decide
  · cases hb

/-- The law of the tables for a state that holds the small plate with its one tile alone, not final. -/
theorem small_assembly (s : State) (tile : Tile)
    (plates : ∀ p : SlotNo, ∀ plate ∈ s.asm.plates[p], p = 0 ∧ plate = smallPlate)
    (tiles : ∀ t : TileNo, ∀ x ∈ s.asm.tiles[t], t = 0 ∧ x = tile)
    (here : s.asm.plates[(0 : SlotNo)] = some smallPlate ∧ s.asm.tiles[(0 : TileNo)] = some tile)
    (place : tile.slot = 0 ∧ tile.index = 0 ∧ tile.row = 0 ∧ tile.col = 0)
    (counts : s.countDone smallPlate.tiles = 0 ∧ s.countFailed smallPlate.tiles = 0)
    (active : ∀ t : TileNo, s.tileIs Tile.active t = true ↔ s.seq.current = some t)
    (moveok : s.seq.moveok = true ↔ s.seq.current = none)
    (watched : s.stage.watched.isSome = s.seq.current.isSome)
    (idle : s.seq.current = none → s.seq.settleTimer = none ∧ s.seq.deferred = false ∧ s.seq.expTimer = none
      ∧ s.merge.frame = .closed ∧ s.merge.lastCarrier = none)
    (trig : s.seq.trig = s.seq.pulseTimer.isSome) (fetch : s.down.fetch = .idle)
    (take : ∀ k ∈ s.plan.take, slotField k.body = some 0) : AssemblyLaw s where
  listed p plate hp i t ht := by
    obtain ⟨rfl, rfl⟩ := plates p plate hp
    rcases i with _ | i
    · cases ht
      refine ⟨tile, here.2, place.1, place.2.1, ?_, ?_⟩
      · rw [place.2.2.1]
        decide
      · rw [place.2.2.2]
        decide
    · cases ht
  owned t x ht := by
    obtain ⟨rfl, rfl⟩ := tiles t x ht
    refine ⟨smallPlate, ?_, ?_⟩
    · simp only [place.1]
      exact here.1
    · rw [place.2.1]
      rfl
  sized p plate hp := by
    obtain ⟨rfl, rfl⟩ := plates p plate hp
    decide
  counts p plate hp := by
    obtain ⟨rfl, rfl⟩ := plates p plate hp
    exact ⟨counts.1.symm, counts.2.symm⟩
  assembling p plate hp _ := by
    obtain ⟨rfl, rfl⟩ := plates p plate hp
    decide
  complete p plate hp h := by
    obtain ⟨rfl, rfl⟩ := plates p plate hp
    cases h
  active := active
  busy t x plate ht _ hp := by
    obtain ⟨_, rfl⟩ := plates _ plate hp
    rfl
  moveok := moveok
  watched := watched
  idle := idle
  trig := trig
  fetches _ _ _ := fetch
  waiting k hk _ := ⟨0, smallPlate, take k hk, here.1, .inl rfl⟩

/-- The law of the holds for such a state. -/
theorem small_holds (s : State) (plates : ∀ p : SlotNo, ∀ plate ∈ s.asm.plates[p], p = 0 ∧ plate = smallPlate)
    (holds : ∀ h : HoldNo, s.hold.pool[h].isSome = true → h = 0)
    (here : s.asm.plates[(0 : SlotNo)] = some smallPlate ∧ s.hold.pool[(0 : HoldNo)] = some (holdFor 0 smallPlate 0))
    (final : s.tileIs Tile.final 0 = false) : HoldLaw s where
  lists p plate hp := by
    obtain ⟨rfl, rfl⟩ := plates p plate hp
    decide
  held p plate hp b h hb := by
    obtain ⟨rfl, rfl⟩ := plates p plate hp
    obtain ⟨rfl, rfl⟩ := small_bands b h hb
    exact here.2
  named h hh := by
    obtain rfl := holds h hh
    exact ⟨0, smallPlate, 0, here.1, by decide⟩
  single p p' plate plate' b b' h hp hp' hb hb' := by
    obtain ⟨rfl, rfl⟩ := plates p plate hp
    obtain ⟨rfl, rfl⟩ := plates p' plate' hp'
    exact ⟨rfl, (small_bands b h hb).1.trans (small_bands b' h hb').1.symm⟩
  unfinished p plate hp b hb _ := by
    obtain ⟨rfl, rfl⟩ := plates p plate hp
    obtain rfl : b = 0 := by
      have : b < 1 := hb
      omega
    exact ⟨fun _ => ⟨0, by decide, final⟩, fun _ => by decide⟩
  dismissing p plate d f hp h := by
    obtain ⟨rfl, rfl⟩ := plates p plate hp
    cases h

theorem test_meets_EveryStepKeepsTheAssemblyLaw : AssemblyLaw (waitingDismiss exposingNow) :=
  small_assembly _ smallExposing (by decide) (by decide) (by decide) (by decide) (by decide) (by decide) (by decide)
    (by decide) (by decide) (by decide) (by decide) (by decide)

theorem test_meets_EveryStepKeepsTheHoldLaw : HoldLaw (waitingDismiss exposingNow) :=
  small_holds _ (by decide) (by decide) (by decide) (by decide)

theorem busy_plates : ∀ p : SlotNo, ∀ plate ∈ (waitingDismiss exposingNow).asm.plates[p], p = 0 ∧ plate = smallPlate := by
  decide

theorem busy_tiles : ∀ t : TileNo, ∀ tile ∈ (waitingDismiss exposingNow).asm.tiles[t], t = 0 ∧ tile = smallExposing := by
  decide

theorem test_meets_EveryStepKeepsTheReservationLaw : ReservationLaw (waitingDismiss exposingNow) where
  total := by decide
  tile t tile ht := by
    obtain ⟨rfl, rfl⟩ := busy_tiles t tile ht
    decide
  plate p plate hp := by
    obtain ⟨rfl, rfl⟩ := busy_plates p plate hp
    constructor
    · intro h
      cases h
    · rintro ⟨d, f, h⟩
      cases h
  places := by decide

theorem test_meets_EveryStepKeepsTheLampLaw : LampLaw armedOn where
  request :=
    { line1 := by decide
      line2 := by
        intro _ t tile plate x ht htile hplate _ hx
        cases ht
        cases htile
        cases hplate
        cases hx
        decide
      line3 := by
        intro _ hn
        exact absurd (.inr (.inr ⟨rfl, rfl⟩)) (hn 0 _ smallPlate rfl rfl rfl)
      line4 := by
        intro _ hn
        exact absurd (.inr (.inr ⟨rfl, rfl⟩)) (hn 0 _ smallPlate rfl rfl rfl) }
  out := by decide
  stopped := by decide

theorem test_meets_EveryStepKeepsThePwqLaw : PwqLaw (withQueue cfg 16) :=
  ⟨by decide, by decide, by decide, by decide, by decide, by decide⟩

theorem test_meets_EveryStepKeepsTheReadsLaw : ReadsLaw readOut :=
  ⟨by decide, by decide, by decide, by decide⟩

/-- One record line is in, its header on the way: P is 1. -/
def headerOnItsWay : State :=
  { (lineReady (.header 0x0E000000 1 true) 1) with
    report := { (lineReady (.header 0x0E000000 1 true) 1).report with produce := 1, consume := 0 }
    pwq := { entries := [{ entry 0 0x0E000000 with header := some 1 }], nextId := 1 } }

theorem test_meets_EveryStepKeepsTheRingLaw : RingLaw headerOnItsWay where
  irq := by decide
  absent h := by cases h
  indices st h := by
    cases h
    decide
  order st h := by
    cases h
    decide
  carried st h e he p hp := by
    cases h
    cases he with
    | head =>
      cases hp
      decide
    | tail _ he => cases he
  single := by decide
  record st h hm := absurd hm (by decide)
  written st h base p hm := by
    cases h
    cases hm with
    | head => decide
    | tail _ hm => cases hm
  newRing st h base before behind hm := by
    have : ReadyLine.newHeader base ∈ headerOnItsWay.report.ready := by rw [hm]; simp
    cases this with
    | tail _ hm => cases hm
  result h := absurd h (by decide)

/-- A record in hand at place 4 of 64, C at 5: 63 places before the ring is full. -/
def recordInHand : State :=
  { lineReady .record 1 with report := { (lineReady .record 1).report with
      produce := 3, drained := 3, consume := 5, irq := true } }

theorem test_meets_EveryStepKeepsTheRingLaw_record : RingLaw recordInHand ∧ ReadyLine.record ∈ recordInHand.report.ready :=
  ⟨{ irq := by decide
     absent := fun h => by cases h
     indices := fun st h => by
       cases h
       decide
     order := fun st h => by
       cases h
       decide
     carried := fun st h e he p hp => by
       cases he with
       | head => cases hp
       | tail _ he => cases he
     single := by decide
     record := fun st h _ => by
       cases h
       decide
     written := fun st h base p hm => by
       cases hm with
       | tail _ hm => cases hm
     newRing := fun st h base before behind hm => by
       have : ReadyLine.newHeader base ∈ recordInHand.report.ready := by rw [hm]; simp
       cases this with
       | tail _ hm => cases hm
     result := fun h => absurd h (by decide) }, by decide⟩

/-- Each of the states of the law tests makes a step. -/
theorem test_meets_EveryStepKeeps :
    (∃ t, step (waitingDismiss exposingNow) = .next t) ∧ (∃ t, step exposingNow = .next t)
      ∧ (∃ t, step (withQueue cfg 16) = .next t) ∧ (∃ t, step readOut = .next t)
      ∧ ∃ t, step headerOnItsWay = .next t := by
  refine ⟨?_, ?_, ?_, ?_, ?_⟩ <;>
  · simp only [step, idle]
    split
    · split <;> first
        | exact ⟨_, rfl⟩
        | exact ⟨_, exec_eq _ _⟩
    · exact ⟨_, exec_eq _ _⟩

theorem test_meets_DismissDiscardsAnAssemblingPlate :
    (waitingDismiss exposingNow).plan.take = some { takeOf 4 [0, 0x2A] with step := .waitingReservation }
      ∧ (0 : SlotNo).val = (wordAt [0, 0x2A] 0).toNat
      ∧ (waitingDismiss exposingNow).asm.plates[(0 : SlotNo)] = some smallPlate ∧ smallPlate.state = .assembling
      ∧ (waitingDismiss exposingNow).report.queue.length + (waitingDismiss exposingNow).report.reserved < 16
      ∧ (waitingDismiss exposingNow).seq.current = some 0 ∧ (waitingDismiss exposingNow).merge.lastCarrier = none := by
  decide

/-- The same with a last carrier, and with the tile CLOSING and the sequencer IDLE. -/
theorem test_meets_DismissDiscardsAnAssemblingPlate_closing :
    (let s : State := { waitingDismiss exposingNow with merge := { exposingNow.merge with lastCarrier := some 3 } }
     AssemblyLaw s ∧ HoldLaw s)
    ∧ AssemblyLaw (waitingDismiss (closingIn .done (some 7))) ∧ HoldLaw (waitingDismiss (closingIn .done (some 7)))
    ∧ (waitingDismiss (closingIn .done (some 7))).tileIs Tile.isClosing 0 = true
    ∧ (waitingDismiss (closingIn .done (some 7))).seq.current = none :=
  ⟨⟨small_assembly _ smallExposing (by decide) (by decide) (by decide) (by decide) (by decide) (by decide) (by decide)
      (by decide) (by decide) (by decide) (by decide) (by decide),
    small_holds _ (by decide) (by decide) (by decide) (by decide)⟩,
  small_assembly _ { smallTile with state := .closing .done (some 7), reservation := 2 } (by decide) (by decide)
    (by decide) (by decide) (by decide) (by decide) (by decide) (by decide) (by decide) (by decide) (by decide)
    (by decide),
  small_holds _ (by decide) (by decide) (by decide) (by decide), by decide, by decide⟩

/-! ### Fences and the exposure path -/

theorem test_meets_FenceDeliveryEndsTheTile :
    (∀ o ∈ [ClosingOutcome.done, .failed .motion, .discarded], ∀ heat ∈ [none, some 7],
      (closingIn o heat).asm.tiles[(0 : TileNo)] = some { smallTile with state := .closing o heat, reservation := 2 }
      ∧ (closingIn o heat).asm.plates[(0 : SlotNo)] = some smallPlate)
    ∧ smallPlate.state = .assembling ∧ smallPlate.tilesDone + 1 + smallPlate.tilesFailed = smallPlate.geo.tiles
    ∧ (∀ x ∈ smallPlate.rowTiles 0, x = 0) ∧ smallPlate.bandHold 0 = some 0
    ∧ ((closingIn .discarded none).modPlate 0 fun p => { p with state := .dismissing 0 0 }).asm.plates[(0 : SlotNo)]
      = some { smallPlate with state := .dismissing 0 0 } := by decide

/-- The plate of 12.5 resident, its tile t CLOSING with outcome DONE: its row is not finished then. -/
theorem test_fence_of_a_row_with_a_tile_left :
    let s := plateRecord (fetchedIn cfg 2 plateBody)
    let u := (s.modTile 0 fun x => { x with state := .closing .done (some 9), reservation := 2 }).deliverFence 0
    u.hold.pool[(0 : HoldNo)].isSome = true ∧ (u.asm.plates[(0 : SlotNo)].map (·.tilesDone)) = some 1
      ∧ u.report.queue = [.tileDone 0 0 0x777 0 false 0 0 [] 9] := by decide

/-- The stage settled, the small plate's tile waiting, and its target 255 counts off on both axes. -/
def mayArmNow (x : Nat) (on : Bool) : State :=
  { resident with
    stage := { resident.stage with dwell := none, posX := BitVec.ofNat 24 x, posY := 0 - 255 }
    lamp := { resident.lamp with on := on, period := 1000 }
    report := { resident.report with reserved := 14 } }

theorem test_meets_ArmingTakesTheChosenTile :
    (let s := mayArmNow 255 true
     s.seq.current = none ∧ s.plan.station = some (stationOf stationBody) ∧ s.stage.cut.level = false
      ∧ s.stage.dwell = none ∧ s.report.queue.length + s.report.reserved ≤ 14
      ∧ s.asm.plates[(0 : SlotNo)] = some smallPlate ∧ smallPlate.tiles[0]? = some 0
      ∧ s.asm.tiles[(0 : TileNo)] = some smallTile ∧ s.qualifies smallPlate 0 = true ∧ s.lamp.on = true
      ∧ s.merge.stray = 0)
    ∧ (mayArmNow 256 true).qualifies smallPlate 0 = false
    ∧ (∀ p : SlotNo, ∀ plate ∈ (mayArmNow 256 true).asm.plates[p], ∀ t ∈ plate.tiles,
      (mayArmNow 256 true).qualifies plate t = false)
    ∧ exposingNow.seq.current.isSome = true ∧ State.reset.plan.station = none ∧ cfg.stage.dwell.isSome = true := by
  decide

theorem test_meets_ArmingTurnsTheLampOn :
    let s := mayArmNow 255 false
    s.mayArm = true ∧ s.candidate = some (0, smallPlate) ∧ s.asm.plates[smallTile.slot] = some smallPlate
      ∧ s.asm.tiles[(0 : TileNo)] = some smallTile ∧ s.plan.station = some (stationOf stationBody)
      ∧ s.lamp.on = false ∧ s.lamp.zone = .cool
      ∧ smallPlate.bracket[0]? = some { duty := 100, step := 0, clip := 4000, floor := 100 } := by decide

theorem test_meets_PeriodEndAndTurnOff :
    (armedOn.lamp.on = true ∧ armedOn.lamp.zone = .cool ∧ armedOn.lamp.fromTile = true
      ∧ armedOn.currentTile = some (0, { smallTile with state := .armed, reservation := 2 }, smallPlate)
      ∧ 0 < armedOn.setting (·.settleTime))
    ∧ exposingNow.lamp.on = false ∧ (mayArmNow 0 true).lamp.fromTile = false
    ∧ ((mayArmNow 0 true).plan.station = some (stationOf stationBody) ∧ 0 < (stationOf stationBody).idleTime
      ∧ (mayArmNow 0 true).seq.current = none) := by decide

/-- The same with a settle time of 0, TRIG low or high. -/
def quick (trig : Bool) : State :=
  { armedOn with
    plan := { armedOn.plan with station := some { stationOf stationBody with settleTime := 0 } }
    seq := { armedOn.seq with trig := trig, pulseTimer := if trig then some { value := 9, limit := 10 } else none } }

theorem test_meets_PeriodEndWithoutSettling :
    ∀ trig ∈ [true, false], (quick trig).seq.trig = trig ∧ (quick trig).setting (·.settleTime) = 0
      ∧ (quick trig).currentTile = some (0, { smallTile with state := .armed, reservation := 2 }, smallPlate)
      ∧ (quick trig).lamp.fromTile = true := by decide

/-- SETTLING with its timer running, TRIG as given. -/
def settling (trig : Bool) (deferred : Bool) : State :=
  let s := busyIn .settling
  { s with seq := { s.seq with
      settleTimer := if deferred then none else some { value := 0, limit := 1000 }
      deferred := deferred, trig := trig, pulseTimer := if trig then some { value := 9, limit := 10 } else none } }

theorem test_meets_SettleTriggerAndExposureTimer :
    (∀ trig ∈ [true, false], ∀ deferred ∈ [true, false],
      (settling trig deferred).currentTile = some (0, { smallTile with state := .settling, reservation := 2 }, smallPlate))
    ∧ (settling true false).seq.settleTimer.isSome = true ∧ (settling true false).seq.trig = true
    ∧ (settling false true).seq.deferred = true ∧ (settling false true).seq.trig = false
    ∧ (settling true true).seq.pulseTimer.isSome = true ∧ (settling false false).seq.pulseTimer = none := by decide

/-- The exposure timer running, with the capture master held or not. -/
def timed (held : Bool) : State :=
  { exposingNow with seq := { exposingNow.seq with expTimer := some { value := 5, limit := 200000 }, captureHeld := held } }

theorem test_meets_SettleTriggerAndExposureTimer_timeout :
    (timed false).seq.expTimer.isSome = true ∧ (timed false).seq.captureHeld = false
      ∧ (timed true).seq.captureHeld = true ∧ exposingNow.seq.expTimer = none := by decide

theorem test_meets_AbortsFollowTheRetryCount :
    cfg.currentTile = none ∧ exposingNow.currentTile = some (0, smallExposing, smallPlate)
      ∧ smallExposing.retries < ({ smallPlate with retryLimit := 1 } : Plate).retryLimit
      ∧ smallPlate.retryLimit ≤ smallExposing.retries
      ∧ ((exposingNow.modPlate 0 fun p => { p with retryLimit := 1 }).currentTile.map (·.2.1)) = some smallExposing
      ∧ (lastBeat 0).merge.lastCarrier = some 0 ∧ exposingNow.merge.lastCarrier = none := by decide

/-- Two reads held, oldest first. -/
def heldReads : State :=
  { waitHold with hold := { waitHold.hold with queue :=
      [⟨3, 0x60000040, 1, 0, ⟨7, 500000⟩⟩, ⟨2, 0x60000000, 8, 0, ⟨9, 500000⟩⟩] } }

theorem test_meets_HoldTimerExpirySendsTheReadStale :
    heldReads.hold.queue = [⟨3, 0x60000040, 1, 0, ⟨7, 500000⟩⟩] ++ ⟨2, 0x60000000, 8, 0, ⟨9, 500000⟩⟩ :: []
      ∧ ∀ x ∈ ([⟨3, 0x60000040, 1, 0, ⟨7, 500000⟩⟩] ++ [] : List HeldRead), x.master ≠ 2 := by decide

/-! ### Stage and lamp -/

/-- The watched position at the edge of its tolerance of 255: the next forward count leaves it. -/
def atTheEdge : State :=
  { exposingNow with stage := { exposingNow.stage with posX := 255, watched := some ⟨0, 0, 255⟩ } }

theorem test_meets_EncoderTransitions :
    (∀ ax, atTheEdge.stage.ref ax = atTheEdge.stage.pair ax)
      ∧ 255 < ((atTheEdge.stage.posX + 1 - 0).toInt.natAbs : Nat)
      ∧ ¬255 < ((atTheEdge.stage.posX - 1 - 0).toInt.natAbs : Nat)
      ∧ atTheEdge.plan.station.isSome = true ∧ State.reset.plan.station = none := by
  refine ⟨?_, by decide⟩
  intro ax
  cases ax <;> decide

theorem test_meets_HomeEdgesAndDwell :
    (atTheEdge.stage.home .x).level = false ∧ atTheEdge.stage.pos .x ≠ 0 ∧ atTheEdge.stage.pos .y = 0
      ∧ ((atTheEdge.stage.setHome .y true).home .y).level = true ∧ atTheEdge.plan.station.isSome = true
      ∧ State.reset.plan.station = none := by decide

theorem test_meets_CutEdges :
    exposingNow.stage.cut.level = false ∧ (exposingNow.setCut true).stage.cut.level = true := by decide

/-- The lamp ON at duty 95, the heat just below warm high, the tile ARMED. -/
def nearlyWarm : State := { armedOn with lamp := { armedOn.lamp with heat := 40624, applied := 95 } }

theorem test_meets_HeatTickFollowsTheModel :
    State.reset.plan.station = none ∧ nearlyWarm.plan.station = some (stationOf stationBody)
      ∧ nearlyWarm.seq.current = some 0
      ∧ nearlyWarm.asm.tiles[(0 : TileNo)] = some { smallTile with state := .armed, reservation := 2 }
      ∧ nearlyWarm.lamp.zone = .cool
      ∧ (stationOf stationBody).warmHigh ≤ min 65535 (40624 - 40624 / 2 ^ (stationOf stationBody).decay + 95) := by
  decide

/-- The lamp ON, the sequencer IDLE, the idle timer one tick short of 5 s. -/
def nearlyOff : State := { mayArmNow 300 true with lamp := { (mayArmNow 300 true).lamp with idleTimer := 4999 } }

theorem test_meets_HeatTickFollowsTheModel_idle :
    nearlyOff.lamp.on = true ∧ nearlyOff.seq.current = none ∧ 0 < (stationOf stationBody).idleTime
      ∧ (stationOf stationBody).idleTime * 1000 ≤ min 255000 (nearlyOff.lamp.idleTimer + 1)
      ∧ min 255000 ((mayArmNow 300 true).lamp.idleTimer + 1) < (stationOf stationBody).idleTime * 1000
      ∧ nearlyOff.plan.station = some (stationOf stationBody) := by decide

/-- HEAT_TICK counts the idle timer (R151). -/
theorem test_heat_tick_counts :
    nextHas (exec .heatTick (mayArmNow 300 true)) (fun t => t.lamp.idleTimer == 1 && t.lamp.on) = true := by decide

theorem test_meets_AppliedDutyChangesOnlyWhereLatched :
    (refresh (effect .periodEnd armedOn)).lamp.applied ≠ armedOn.lamp.applied
      ∧ (refresh (effect .arming (mayArmNow 0 false))).lamp.applied ≠ 0
      ∧ (refresh (effect (.powerOnReset StageLines.low 0) nearlyWarm)).lamp.applied ≠ 95
      ∧ nextHas (exec .periodEnd armedOn) (fun t => t.lamp.applied != armedOn.lamp.applied) = true
      ∧ nextHas (exec .dwellExpiry (mayArmNow 0 false)) (fun t => t.lamp.applied != 0) = true := by decide

/-! ### What follows in a step, and the clock -/

/-- Arming follows a dwell expiry, and a fetched record its last line, in the same step (R141, R172). -/
theorem test_follows_in_the_step :
    nextHas (exec .dwellExpiry (mayArmNow 255 true)) (fun t => t.seq.current == some 0) = true
      ∧ nextHas (exec (.fetchResponse .ok [3, 0x2A, 0, 0, 0, 0, 0, 0]) (lineOut 0 (some 4))) (fun t =>
        t.plan.take.map (·.step) == some (.finished (resultWord 4 .wrongPlate 0))) = true := by decide

/-- A record that an arming offers stands before the result word of the same step (R176, R189). -/
theorem test_result_word_is_last :
    nextHas (exec .retake { fetchedIn (mayArmNow 255 true) 3 [4, 0, 0] with
        report := cfg.report, merge := { cfg.merge with stray := 3 } }) (fun t =>
      t.seq.current == some 0 && t.report.queue == [.strayCapture 3] && t.report.ready == [.record, .result]) = true := by
  decide

/-- Table 5-9: the queue full, its head in flight, a CAPTURE write with an image and a proof line held, and a record line
waiting for the turn. -/
def stalled (turn : Side) : State :=
  let s := heldCapture.modPlate 0 fun p => { p with proofBase := some 0x70000000 }
  { s with
    pwq := { entries := (queueOf 16).entries.mapIdx fun i e => if i = 0 then { e with state := .draining } else e
             nextId := 16 }
    port := { s.port with turn := turn }
    report := { s.report with queue := [.cutChange true 0], ready := [.record], waits := true } }

/-- Table 5-9: at E1 the record line enters with the turn, and the header line waits; at E2 the free entry is kept for the
Upstream Port; and a side that waits alone takes the entry in the step that frees it (R113). -/
theorem test_table_5_9 :
    nextHas (exec .drainRetireOk (stalled .report)) (fun t =>
      t.pwq.entries.length == 16 && t.port.turn == .upstream && t.report.waits && t.port.held.isSome
        && t.report.ready == [.header 0x0E000000 1 true]) = true
    ∧ nextHas (exec .drainRetireOk (stalled .upstream)) (fun t =>
      t.pwq.entries.length == 15 && t.port.turn == .upstream && t.report.ready == [.record] && t.port.held.isSome) = true
    ∧ nextHas (exec .drainRetireOk { stalled .upstream with port := cfg.port }) (fun t =>
      t.pwq.entries.length == 16 && t.port.turn == .upstream && t.report.produce == 1) = true
    ∧ nextHas (exec .drainRetireOk { stalled .upstream with pwq := { (stalled .upstream).pwq with
        entries := (stalled .upstream).pwq.entries.take 15 } }) (fun t =>
      t.pwq.entries.length == 16 && t.port.turn == .report && t.port.held == none && t.seq.captureHeld == false
        && t.report.waits && t.port.answers == [{ master := 1, status := .ok, data := [] }]) = true :=
  ⟨by decide, by decide, by decide, by decide⟩

theorem test_meets_EffectsAreFollowedInTheirStep :
    (let s : State := { heldNow with pwq := queueOf 15 }
     s.follows = [.heldWriteEntry] ∧ heldNow.follows = [])
      ∧ ({ cfg with report := { cfg.report with ready := [.header 0x0E000000 0 true], waits := true } } : State).follows
        = [.headerLineEntry]
      ∧ (refresh cfg).follows = [] ∧ (refresh (mayArmNow 255 true)).follows = [.arming]
      ∧ (refresh (waitingDismiss (mayArmNow 255 true))).follows = [.dismissReservation, .arming]
      ∧ (fetchedIn cfg 2 plateBody).follows = [.plate]
      ∧ ({ readOut with
          reads := { readOut.reads with ready := readOut.reads.out }
          down := { readOut.down with accept := true } } : State).follows = [.arbiterGrant] := by decide

/-- The CLK cycle in which all three ticks fall. -/
theorem test_meets_ClkCycleCounts :
    State.reset.plan.station = none
      ∧ ({ cfg with clock := { cfg.clock with us := 99, ms := 999, lampDiv := 99 } } : State).ticks = ⟨true, true, true⟩
      ∧ ({ cfg with clock := { cfg.clock with us := 98, ms := 999, lampDiv := 98 } } : State).ticks
        = ⟨false, false, false⟩ := by decide

theorem test_meets_ClkCycleTakesWhatIsDue :
    let k : Ticks := ⟨true, true, true⟩
    Instr.heatTick ∈ nearlyWarm.due k ∧ Instr.periodEnd ∉ nearlyWarm.due k
      ∧ Instr.settleExpiry ∈ ({ settling false false with
          seq := { (settling false false).seq with settleTimer := some { value := 1000, limit := 1000 } } } : State).due k
      ∧ Instr.validTransition .x .a ∈ ({ cfg with stage := ripe.stage } : State).due k
      ∧ Instr.cutRise ∉ ({ cfg with stage := ripe.stage } : State).due k := by decide

/-- A filter counts the samples that differ from its level, and starts again at one that does not (R134). -/
theorem test_filter_samples (l : StageLines) :
    (ripe.stage.sample { l with xa := true }).xa.run = 9 ∧ (ripe.stage.sample { l with xa := false }).xa.run = 0 :=
  ⟨rfl, rfl⟩

end Sys2Proof.Tests
end

section
/-! PROOFS. Rules that all the proofs of this part use: a command by its effect, and the tables entry by entry. -/

namespace Sys2Proof.Machine

/-- A command does what its effect does (log entry 3). -/
theorem exec_of_effect {c : Instr} {s u : State} (h : effect c s = u) : exec c s = .next (finish u) := by
  rw [exec_eq, h]

/-! ### The tables, entry by entry -/

theorem setTile_tiles (s : State) (t x : TileNo) (y : Option Tile) :
    (s.setTile t y).asm.tiles[x] = if x = t then y else s.asm.tiles[x] := by
  simp [State.setTile, Vector.getElem_set, Fin.ext_iff, eq_comm]

theorem setTile_self (s : State) (t : TileNo) (x : Option Tile) : (s.setTile t x).asm.tiles[t] = x :=
  (setTile_tiles s t t x).trans (if_pos rfl)

theorem setPlate_plates (s : State) (p q : SlotNo) (y : Option Plate) :
    (s.setPlate p y).asm.plates[q] = if q = p then y else s.asm.plates[q] := by
  simp [State.setPlate, Vector.getElem_set, Fin.ext_iff, eq_comm]

theorem setHold_pool (s : State) (h g : HoldNo) (y : Option Hold) :
    (s.setHold h y).hold.pool[g] = if g = h then y else s.hold.pool[g] := by
  simp [State.setHold, Vector.getElem_set, Fin.ext_iff, eq_comm]

theorem modTile_tiles (s : State) (t x : TileNo) (f : Tile → Tile) :
    (s.modTile t f).asm.tiles[x] = if x = t then s.asm.tiles[x].map f else s.asm.tiles[x] := by
  rw [State.modTile, setTile_tiles]
  split
  · next h => rw [h]
  · rfl

theorem modPlate_plates (s : State) (p q : SlotNo) (f : Plate → Plate) :
    (s.modPlate p f).asm.plates[q] = if q = p then s.asm.plates[q].map f else s.asm.plates[q] := by
  rw [State.modPlate, setPlate_plates]
  split
  · next h => rw [h]
  · rfl

end Sys2Proof.Machine
end

section
/-! PROOFS. The exposure path (03): settling, the trigger and the exposure timer (O43), aborts (O44) and
arming (O40). -/

namespace Sys2Proof.Machine

theorem startExposure_eq (s : State) (t : TileNo) (tile : Tile) : s.startExposure t tile = s.exposing t tile := rfl

/-- R60, R61: a SETTLING tile whose settle time is over is exposed, or deferred while TRIG is high. -/
theorem settleExpiry_settling {s : State} {t : TileNo} {tile : Tile} {plate : Plate}
    (hc : s.currentTile = some (t, tile, plate)) (hs : tile.state = .settling) (ht : s.seq.settleTimer.isSome = true) :
    settleExpiry s = s.settleExpires t tile := by
  obtain ⟨timer, htimer⟩ := Option.isSome_iff_exists.1 ht
  simp [settleExpiry, htimer, hc, hs]

theorem deferredTrigger_settling {s : State} {t : TileNo} {tile : Tile} {plate : Plate}
    (hc : s.currentTile = some (t, tile, plate)) (hs : tile.state = .settling) (hd : s.seq.deferred = true)
    (ht : s.seq.trig = false) : deferredTrigger s = s.exposing t tile := by
  simp [deferredTrigger, hc, hs, hd, ht, startExposure_eq]

theorem deferredTrigger_waits {s : State} (h : s.seq.deferred = false ∨ s.seq.trig = true) : deferredTrigger s = s := by
  unfold deferredTrigger
  cases s.currentTile with
  | none => rfl
  | some x => rcases h with h | h <;> simp [h]

theorem triggerPulseEnd_running {s : State} (h : s.seq.pulseTimer.isSome = true) :
    triggerPulseEnd s = { s with seq := { s.seq with trig := false, pulseTimer := none } } := by
  obtain ⟨timer, htimer⟩ := Option.isSome_iff_exists.1 h
  simp [triggerPulseEnd, htimer]

theorem exposureTimerExpiry_running {s : State} (h : s.seq.expTimer.isSome = true) (hh : s.seq.captureHeld = false) :
    exposureTimerExpiry s = s.abort .timeout := by
  obtain ⟨timer, htimer⟩ := Option.isSome_iff_exists.1 h
  simp [exposureTimerExpiry, htimer, hh]

theorem exposureTimerExpiry_stopped {s : State} (h : s.seq.expTimer = none ∨ s.seq.captureHeld = true) :
    exposureTimerExpiry s = s := by
  unfold exposureTimerExpiry
  cases he : s.seq.expTimer with
  | none => rfl
  | some timer => simp_all

theorem triggerPulseEnd_stopped {s : State} (h : s.seq.pulseTimer = none) : triggerPulseEnd s = s := by
  simp [triggerPulseEnd, h]

/-- Settles O43, by the equation of each event in each of its cases. -/
theorem settleTriggerAndExposureTimer : Obligations.SettleTriggerAndExposureTimer := by
  unfold Obligations.SettleTriggerAndExposureTimer
  refine ⟨fun s t tile plate hc hs ht => ⟨fun htrig => exec_of_effect ?_, fun htrig => exec_of_effect ?_⟩,
    ⟨fun s h => exec_of_effect (triggerPulseEnd_running h), fun s h => exec_of_effect (triggerPulseEnd_stopped h),
      fun s t tile plate hc hs hd ht => exec_of_effect (deferredTrigger_settling hc hs hd ht),
      fun s h => exec_of_effect (deferredTrigger_waits h)⟩,
    fun s => ⟨fun h hh => exec_of_effect (exposureTimerExpiry_running h hh),
      fun h => exec_of_effect (exposureTimerExpiry_stopped h)⟩⟩
  · exact (settleExpiry_settling hc hs ht).trans (by simp [State.settleExpires, htrig, startExposure_eq])
  · exact (settleExpiry_settling hc hs ht).trans (by simp [State.settleExpires, htrig])

/-! ### Leaving the sequencer -/

/-- R65: the reasons that count are MOTION, TIMEOUT and ENCODER. -/
theorem consumes_iff (r : Reason) : r.consumes = true ↔ r = .motion ∨ r = .timeout ∨ r = .encoder := by
  cases r <;> simp [Reason.consumes]

theorem retriesAfter_eq (tile : Tile) (r : Reason) :
    tile.retriesAfter r = if r = .motion ∨ r = .timeout ∨ r = .encoder then tile.retries + 1 else tile.retries := by
  simp only [Tile.retriesAfter, consumes_iff]

theorem tagOf_of_plate {s : State} {p : SlotNo} {plate : Plate} (h : s.asm.plates[p] = some plate) :
    s.tagOf p = plate.tag := by
  simp [State.tagOf, h]

/-- The current tile enters CLOSING with a last carrier: its fence is put on the carrier (R24). -/
theorem closeCurrent_carrier {s : State} {id : Nat} (t : TileNo) (tile : Tile) (o : ClosingOutcome) (heat : Option Nat)
    (h : s.merge.lastCarrier = some id) :
    s.closeCurrent t tile o heat =
      (((s.setTile t (some { tile with state := .closing o heat })).leave).putFence id t) := by
  simp [State.closeCurrent, State.placeFence, h]

/-- With no last carrier the fence is delivered at once (R24). -/
theorem closeCurrent_noCarrier {s : State} (t : TileNo) (tile : Tile) (o : ClosingOutcome) (heat : Option Nat)
    (h : s.merge.lastCarrier = none) :
    s.closeCurrent t tile o heat =
      (((s.setTile t (some { tile with state := .closing o heat })).leave).deliverFence t) := by
  simp [State.closeCurrent, State.placeFence, h]

theorem abort_closes {s : State} {t : TileNo} {tile : Tile} {plate : Plate} {r : Reason}
    (hc : s.currentTile = some (t, tile, plate)) (hr : r.consumes = true) (hl : plate.retryLimit ≤ tile.retries) :
    s.abort r = s.closeCurrent t tile (.failed r) none := by
  simp [State.abort, hc, hr, hl]

theorem abort_returns {s : State} {t : TileNo} {tile : Tile} {plate : Plate} {r : Reason}
    (hc : s.currentTile = some (t, tile, plate)) (hr : r.consumes = false ∨ tile.retries < plate.retryLimit) :
    s.abort r = s.abortToPending t tile r := by
  rcases hr with hr | hr <;> simp [State.abort, hc, hr]

/-- Settles O44: the retry count decides between `abortToPending` and `closeCurrent`, whose whole effects are said. -/
theorem abortsFollowTheRetryCount : Obligations.AbortsFollowTheRetryCount := by
  unfold Obligations.AbortsFollowTheRetryCount
  refine ⟨fun s r _ => ⟨abort_idle r, ?_⟩, ?_⟩
  · intro t tile plate hc counted retries hr
    have hret : r.consumes = false ∨ tile.retries < plate.retryLimit := by
      rwa [← Bool.not_eq_true, consumes_iff]
    obtain ⟨-, -, hp, -⟩ := currentTile_some.1 hc
    rw [abort_returns hc hret]
    simp only [State.abortToPending, State.tileFaultRecord, tagOf_of_plate hp, Tile.aborted, retriesAfter_eq]
    rfl
  · intro s r t tile plate hr hc hl a
    rw [abort_closes hc ((consumes_iff r).2 hr) hl]
    refine ⟨fun id hid => ?_, fun hnone => ?_⟩
    · rw [closeCurrent_carrier _ _ _ _ hid]
      rfl
    · rw [closeCurrent_noCarrier _ _ _ _ hnone]
      rfl

/-! ### Arming (3.2) -/

/-- A search through a rising list finds what its first answering element gives. -/
theorem findSome?_of_first {n : Nat} {β : Type} {f : Fin n → Option β} {p : Fin n} {b : β} (hp : f p = some b)
    (hfirst : ∀ q < p, f q = none) : (List.finRange n).findSome? f = some b := by
  obtain ⟨before, behind, hsplit⟩ := List.append_of_mem (List.mem_finRange p)
  refine List.findSome?_eq_some_iff.2 ⟨before, p, behind, hsplit, hp, fun q hq => hfirst q ?_⟩
  have hsorted := List.pairwise_lt_finRange n
  rw [hsplit, List.pairwise_append] at hsorted
  obtain ⟨-, -, hbefore⟩ := hsorted
  exact hbefore q hq p List.mem_cons_self

/-- R52: what it is to qualify, on the difference modulo 2^24 taken as signed. -/
theorem qualifies_iff (s : State) (plate : Plate) (t : TileNo) :
    s.qualifies plate t = true ↔ ∃ tile, s.asm.tiles[t] = some tile ∧ tile.state = .pending
      ∧ within s.stage.posX (plate.targetX tile.col) plate.tolerance = true
      ∧ within s.stage.posY (plate.targetY tile.row) plate.tolerance = true := by
  simp [State.qualifies, Option.any_eq_true, and_assoc]

/-- R54 within one slot: the first tile of an ASSEMBLING plate's list that qualifies. -/
theorem candidateIn_of_first {s : State} {p : SlotNo} {plate : Plate} {i : Nat} {t : TileNo}
    (hp : s.asm.plates[p] = some plate) (ha : plate.state = .assembling) (hi : plate.tiles[i]? = some t)
    (hq : s.qualifies plate t = true)
    (hfirst : ∀ j < i, ∀ x, plate.tiles[j]? = some x → s.qualifies plate x = false) :
    s.candidateIn p = some (t, plate) := by
  have hfind : plate.tiles.find? (s.qualifies plate) = some t := by
    obtain ⟨hlt, hget⟩ := List.getElem?_eq_some_iff.1 hi
    refine List.find?_eq_some_iff_getElem.2 ⟨hq, i, hlt, hget, fun j hj => ?_⟩
    simp [hfirst j hj _ (List.getElem?_eq_getElem (hj.trans hlt))]
  simp [State.candidateIn, hp, ha, hfind]

theorem candidateIn_none {s : State} {p : SlotNo}
    (h : ∀ plate, s.asm.plates[p] = some plate → plate.state = .assembling →
      ∀ t ∈ plate.tiles, s.qualifies plate t = false) : s.candidateIn p = none := by
  unfold State.candidateIn
  cases hp : s.asm.plates[p] with
  | none => rfl
  | some plate =>
    by_cases ha : plate.state = .assembling
    · simpa [ha] using h plate hp ha
    · simp [ha]

theorem mayArm_iff (s : State) :
    s.mayArm = true ↔ s.seq.current = none ∧ s.plan.station ≠ none ∧ s.stage.cut.level = false ∧ s.stage.dwell = none
      ∧ s.report.queue.length + s.report.reserved ≤ 14 := by
  simp [State.mayArm, State.configured, Stage.settled, Report.used, Config.reportPlaces, and_assoc,
    Option.isSome_iff_ne_none]

theorem arming_candidate {s : State} {t : TileNo} {plate : Plate} {tile : Tile} (hm : s.mayArm = true)
    (hc : s.candidate = some (t, plate)) (ht : s.asm.tiles[t] = some tile) : arming s = s.armTile t plate tile := by
  simp [arming, hm, hc, ht]

/-- R53: with a condition missing, or no tile that qualifies, nothing is armed. -/
theorem arming_waits {s : State} (h : s.mayArm = false ∨ s.candidate = none) : arming s = s := by
  rcases h with h | h <;> simp [arming, h]

theorem arm_eq (tile : Tile) (e : Nat) (zone : Zone) :
    tile.arm e zone = { tile with
      state := .armed, expIndex := e
      heatWaits := if zone = .warm then min 255 (tile.heatWaits + 1) else tile.heatWaits } := by
  unfold Tile.arm
  split <;> simp [Tile.countHeatWait]

/-- An offer takes no notice of the lamp. -/
theorem offer_withLamp (s : State) (r : Record) (l : Lamp) :
    ({ s with lamp := l } : State).offer r = { s.offer r with lamp := l } := by
  unfold State.offer
  cases s.plan.station with
  | none => rfl
  | some st => simp only []; split <;> rfl

theorem offerStray_withLamp (s : State) (l : Lamp) :
    ({ s with lamp := l } : State).offerStray = { s.offerStray with lamp := l } := by
  unfold State.offerStray
  split
  · exact congrArg (fun u : State => { u with merge := { u.merge with stray := 0 } })
      (offer_withLamp s (.strayCapture s.merge.stray) l)
  · rfl

theorem offerStray_zero {s : State} (h : s.merge.stray = 0) : s.offerStray = s := by
  simp [State.offerStray, h]

theorem offerStray_pos {s : State} (h : s.merge.stray ≠ 0) :
    s.offerStray =
      { s.offer (.strayCapture s.merge.stray) with merge := { s.merge with stray := 0 } } := by
  simp [State.offerStray, Nat.pos_of_ne_zero h]

/-- The arming step of R55 of a lamp that is ON, but for the stray count of its item 4. -/
def State.armedFor (t : TileNo) (plate : Plate) (tile : Tile) (s : State) : State :=
  { (s.reserve 2).setTile t (some { tile.arm 0 s.lamp.zone with reservation := 2 }) with
    seq := { s.seq with current := some t, moveok := false }
    merge := { s.merge with frame := .closed, lastCarrier := s.pwq.lastOfTile t }
    stage := { s.stage with watched := some (plate.watch tile) }
    lamp := { s.lamp with idleTimer := 0 } }

theorem armTile_lampOn {s : State} (t : TileNo) (plate : Plate) (tile : Tile) (h : s.lamp.on = true) :
    s.armTile t plate tile = (s.armedFor t plate tile).offerStray := by
  let u : State := { s.armedFor t plate tile with lamp := s.lamp }
  have harm : s.armTile t plate tile =
      (let v : State := { u.offerStray with lamp := { u.offerStray.lamp with idleTimer := 0 } }
       if v.lamp.on then v else v.turnOn) := rfl
  have hl : u.offerStray.lamp = s.lamp := by simp [u]
  rw [harm, hl]
  exact (if_pos h).trans (offerStray_withLamp u { s.lamp with idleTimer := 0 }).symm

/-- Settles O40: the tile chosen is found by `candidate`, and `armTile_lampOn` arms it while the lamp is ON. -/
theorem armingTakesTheChosenTile : Obligations.ArmingTakesTheChosenTile := by
  unfold Obligations.ArmingTakesTheChosenTile
  refine ⟨?_, ?_, ?_⟩
  · intro s st p plate i t tile hidle hst hcut hdwell hroom hp ha hi ht hq hfirst hslots hon armed a
    have hmay : s.mayArm = true := (mayArm_iff s).2 ⟨hidle, by simp [hst], hcut, hdwell, hroom⟩
    have hnone : ∀ q < p, s.candidateIn q = none := fun q hlt => candidateIn_none (hslots q hlt)
    have hcand : s.candidate = some (t, plate) :=
      findSome?_of_first (candidateIn_of_first hp ha hi hq hfirst) hnone
    have hu : s.armedFor t plate tile = a := by
      simp only [State.armedFor, arm_eq]
      rfl
    have harm : arming s = a.offerStray :=
      (arming_candidate hmay hcand ht).trans ((armTile_lampOn t plate tile hon).trans (congrArg _ hu))
    exact ⟨fun hz => exec_of_effect (harm.trans (offerStray_zero hz)),
      fun hz => exec_of_effect (harm.trans (offerStray_pos hz))⟩
  · intro s plate t
    simpa [within, Plate.targetX, Plate.targetY] using qualifies_iff s plate t
  · intro s h
    refine exec_of_effect (arming_waits ?_)
    by_cases hm : s.mayArm = true
    · obtain ⟨hidle, hst, hcut, hdwell, hroom⟩ := (mayArm_iff s).1 hm
      have hnone : ∀ (p : SlotNo) plate, s.asm.plates[p] = some plate → plate.state = .assembling →
          ∀ t ∈ plate.tiles, s.qualifies plate t = false := by
        simpa [hidle, hst, hcut, hdwell, Nat.not_lt.2 hroom] using h
      exact .inr (List.findSome?_eq_none_iff.2 fun p _ => candidateIn_none (hnone p))
    · exact .inl (Bool.eq_false_iff.2 hm)

end Sys2Proof.Machine
end

section
/-! PROOFS. The tail of the queue and captures (01, 05): queue writes (O11), captures outside and inside a frame (O17,
O18), the held write (O21) and the completion of a frame (O20). -/

namespace Sys2Proof.Machine

/-! ### Queue writes (5.4) -/

theorem takes_iff (e : Entry) (line : Nat) : e.takes line = true ↔ e.line = line ∧ e.state = .waiting := by
  simp [Entry.takes]

theorem hasWaiting_iff (q : Pwq) (line : Nat) :
    q.hasWaiting line = true ↔ ∃ e ∈ q.entries, e.line = line ∧ e.state = .waiting := by
  simp [Pwq.hasWaiting, takes_iff]

theorem place_merges {q : Pwq} {w : QWrite} (h : q.hasWaiting w.line = true) :
    q.place w = { q with entries := q.entries.map (Entry.mergeIf w) } := by
  simp [Pwq.place, h]

theorem place_opens {q : Pwq} {w : QWrite} (h : q.hasWaiting w.line = false) :
    q.place w = { entries := q.entries ++ [newEntry q.nextId w], nextId := q.nextId + 1 } := by
  simp [Pwq.place, h]

/-- An enabled byte replaces, a byte whose enable is clear keeps (R111). -/
theorem overlay_getElem (old new : LineBytes) (j : Fin 32) :
    (overlay old new)[j] = if new[j].isSome then new[j] else old[j] := by
  have h : (overlay old new)[j] = (new[j] <|> old[j]) := by simp [overlay]
  rw [h]
  cases new[j] <;> rfl

/-- Whichever source stands higher (R109). -/
theorem higher_rank (a b : Source) : (a.higher b).rank = max a.rank b.rank := by
  unfold Source.higher
  split <;> omega

theorem orElse_eq_ite {α : Type} (x y : Option α) : (x <|> y) = if x.isSome then x else y := by
  cases x <;> rfl

/-- The first entry in queue order that takes the line is the one a placement reaches. -/
theorem placedId_of_first {q : Pwq} {w : QWrite} {a b : List Entry} {e : Entry} (hq : q.entries = a ++ e :: b)
    (he : e.takes w.line = true) (ha : ∀ x ∈ a, ¬x.takes w.line = true) : q.placedId w = e.id := by
  have hfind : q.entries.find? (·.takes w.line) = some e :=
    List.find?_eq_some_iff_append.2 ⟨he, a, b, hq, fun x hx => by simpa using ha x hx⟩
  simp [Pwq.placedId, hfind]

theorem placedId_opens {q : Pwq} {w : QWrite} (h : q.hasWaiting w.line = false) : q.placedId w = q.nextId := by
  have hfind : q.entries.find? (·.takes w.line) = none := by
    rw [List.find?_eq_none]
    simpa [Pwq.hasWaiting] using h
  simp [Pwq.placedId, hfind]

/-- R23: a write that carries the current tile moves the last-carrier reference to the entry it reaches, if later. -/
theorem placeOne_carries {s : State} {w : QWrite} {t : TileNo} (hw : w.tileRef = some t)
    (hc : s.seq.current = some t) :
    s.placeOne w = { s with
      pwq := s.pwq.place w
      merge := { s.merge with lastCarrier := laterCarrier s.merge.lastCarrier (s.pwq.placedId w) } } := by
  simp [State.placeOne, hw, hc]

theorem placeOne_other {s : State} {w : QWrite} (h : w.tileRef = none ∨ w.tileRef ≠ s.seq.current) :
    s.placeOne w = { s with pwq := s.pwq.place w } := by
  rcases h with h | h <;> simp [State.placeOne, h]

theorem laterCarrier_eq (lc : Option Nat) (id : Nat) :
    laterCarrier lc id = some (match lc with
      | none => id
      | some k => max k id) := by
  cases lc <;> rfl

/-- Settles O11: `place_merges` and `place_opens` give the queue, `placeOne_carries` the last-carrier reference. -/
theorem queueWriteMergesOrOpens : Obligations.QueueWriteMergesOrOpens := by
  unfold Obligations.QueueWriteMergesOrOpens
  refine ⟨fun q w => ⟨fun h => ?_, fun h => ?_, hasWaiting_iff q w.line⟩, fun s w => ?_, fun s w ws => ⟨rfl, rfl⟩⟩
  · rw [place_merges h]
    refine ⟨rfl, by simp, fun i e he => ⟨e.mergeIf w, by simp [he], fun hno => ?_, fun hyes => ?_⟩⟩
    · simp [Entry.mergeIf, takes_iff, hno]
    · have hm : e.mergeIf w = e.merge w := by simp [Entry.mergeIf, takes_iff, hyes]
      simp only [hm, Entry.merge, overlay_getElem, higher_rank, orElse_eq_ite, implies_true, and_self]
  · rw [place_opens h]
    exact ⟨rfl, rfl⟩
  · intro later
    have hlater : ∀ id, laterCarrier s.merge.lastCarrier id = later id := fun id => laterCarrier_eq _ _
    refine ⟨placeOne_other, fun t hw hc => ⟨fun a e b hq hl hs ha => ?_, fun h => ?_⟩⟩
    · rw [placeOne_carries hw hc, hlater,
        placedId_of_first hq ((takes_iff e w.line).2 ⟨hl, hs⟩) (fun x hx => by simpa [takes_iff] using ha x hx)]
    · rw [placeOne_carries hw hc, hlater, placedId_opens h]

/-! ### A write at the tail of the queue (5.2, 5.4) -/

/-- A state with another port, and its capture master held or not. -/
def State.atPort (p : Port) (held : Bool) (s : State) : State :=
  { s with port := p, seq := { s.seq with captureHeld := held } }

/-- The tail turn after an upstream placement of some writes (R113). -/
def State.turnAfter (ws : List QWrite) (s : State) : Side :=
  if ws ≠ [] ∧ s.report.waits = true then .report else s.port.turn

theorem passTurn_eq (ws : List QWrite) (s : State) :
    (if ws.isEmpty = true then s else s.passTurnToReport) =
      s.atPort { s.port with turn := s.turnAfter ws } s.seq.captureHeld := by
  cases ws with
  | nil => rfl
  | cons q ws =>
    cases h : s.report.waits <;> simp [State.passTurnToReport, State.turnAfter, State.atPort, h]

theorem releaseHeld_eq (m : Master) (s : State) :
    s.releaseHeld m = s.atPort { s.port with held := none }
      (if s.plan.station.any (·.captureMaster == m) then false else s.seq.captureHeld) := by
  unfold State.releaseHeld State.atPort
  split <;> rfl

theorem holdWrite_eq (c : WriteClass) (w : WriteReq) (s : State) : s.holdWrite c w = s.withHeld c w := by
  unfold State.holdWrite State.withHeld
  split <;> rfl

/-- The queue writes of one taking change the queue and the last-carrier reference, nothing else (R19, R23). -/
theorem placeAll_changes (ws : List QWrite) (s : State) : ∃ q lc,
    s.placeAll ws = { s with pwq := q, merge := { s.merge with lastCarrier := lc } } := by
  induction ws generalizing s with
  | nil => exact ⟨s.pwq, s.merge.lastCarrier, rfl⟩
  | cons w ws ih =>
    obtain ⟨q, lc, h⟩ := ih (s.placeOne w)
    refine ⟨q, lc, h.trans ?_⟩
    unfold State.placeOne
    split <;> rfl

/-- Placing takes no notice of the port. -/
theorem placeAll_atPort (ws : List QWrite) (p : Port) (held : Bool) (s : State) :
    (s.atPort p held).placeAll ws = (s.placeAll ws).atPort p held := by
  induction ws generalizing s with
  | nil => rfl
  | cons w ws ih => exact ih (s.placeOne w)

/-! ### Captures: whole or held (R11, R112) -/

theorem capture_effect {w : WriteReq} {s : State} (h : s.Takes w) (hc : s.classify w = .capture) :
    effect (.capture w) s = s.postWrite .capture w := by
  have hd : s.decodeWrite w = s.postWrite .capture w := by simp [State.decodeWrite, hc]
  exact h.present.trans hd

theorem postWrite_enters {c : WriteClass} {w : WriteReq} {s : State} (h : s.canPlace (s.queueWrites c w) = true) :
    s.postWrite c w =
      ((s.atPort { s.port with turn := s.turnAfter (s.queueWrites c w) } s.seq.captureHeld).enterWrite c w).answer
        w.master .ok [] := by
  simp only [State.postWrite, h, if_true, passTurn_eq]

theorem postWrite_held {c : WriteClass} {w : WriteReq} {s : State} (h : s.canPlace (s.queueWrites c w) = false) :
    s.postWrite c w = s.withHeld c w := by
  simp [State.postWrite, h, holdWrite_eq]

/-- A capture whose frame goes on: its queue writes enter and the Merge Unit takes the counts (R11). -/
theorem enterWrite_goesOn {w : WriteReq} {s : State} (h : (s.translate w).complete = false) :
    s.enterWrite .capture w =
      (s.placeAll ((s.translate w).writes s.seq.current)).takeCounts (s.translate w) := by
  simp [State.enterWrite, State.handOver, h, State.queueWrites]

/-- What a capture that enters from some state of the port leaves, while its frame goes on. -/
theorem enterWrite_goesOn_atPort {w : WriteReq} {s : State} (p : Port) (held : Bool)
    (h : (s.translate w).complete = false) :
    let sc := s.translate w
    let a := s.placeAll (sc.writes s.seq.current)
    (s.atPort p held).enterWrite .capture w = { a with
      merge := { a.merge with counter := sc.counter, dark := sc.dark, clip := sc.clip, stray := sc.stray }
      port := p
      seq := { s.seq with captureHeld := held } } := by
  intro sc a
  obtain ⟨q, lc, ha⟩ := placeAll_changes (sc.writes s.seq.current) s
  have hgo : (s.atPort p held).enterWrite .capture w =
      ((s.atPort p held).placeAll (sc.writes s.seq.current)).takeCounts sc := enterWrite_goesOn h
  have hc : sc.complete = false := h
  rw [hgo, placeAll_atPort, ha, show a = _ from ha]
  simp [State.takeCounts, State.atPort, hc]

theorem canPlace_iff (ws : List QWrite) (s : State) : s.canPlace ws = true ↔ s.pwq.need ws ≤ s.pwq.free := by
  simp [State.canPlace]

/-! ### Translation (1.3) -/

theorem frameCtx_closed {s : State} (h : s.merge.frame = .closed ∨ s.currentTile = none) : s.frameCtx = none := by
  unfold State.frameCtx
  rcases h with h | h <;> simp [h]

theorem frameCtx_open {s : State} {t : TileNo} {tile : Tile} {plate : Plate} {st : Station} {x : Exposure}
    (hf : s.merge.frame = .opened) (hc : s.currentTile = some (t, tile, plate)) (hst : s.plan.station = some st)
    (hx : plate.bracket[s.merge.exposure]? = some x) :
    s.frameCtx = some { window := st.windowBase, geo := plate.geo, proofBase := plate.proofBase, exposure := x
                        index := tile.index, row := tile.row, col := tile.col, first := s.merge.exposure == 0
                        tile := t } := by
  simp [State.frameCtx, hf, hc, hst, List.getD_eq_getElem?_getD, hx]

/-- Beats outside a frame are counted, saturating, and gathered (R12). -/
theorem foldl_strayBeat (ws : List WordWrite) (hne : ws ≠ []) (sc : Scan) :
    ws.foldl (Scan.beat none) sc =
      { sc with stray := min 4294967295 (sc.stray + ws.length), strays := sc.strays ++ ws } := by
  induction ws generalizing sc with
  | nil => exact absurd rfl hne
  | cons w ws ih =>
    by_cases hws : ws = []
    · subst hws
      rfl
    · rw [List.foldl_cons, ih hws]
      simp only [Scan.beat, Scan.strayBeat, List.append_assoc, List.singleton_append, List.length_cons, Scan.mk.injEq,
        true_and, and_true]
      omega

theorem writeWords_length (w : WriteReq) : (writeWords w).length = w.beats.length := by simp [writeWords]

theorem writes_eq (sc : Scan) (current : Option TileNo) :
    sc.writes current = (lineWrite sc.image .merge current).toList ++ (lineWrite sc.proof .merge current).toList
      ++ (lineWrite sc.strays .upstream none).toList := by
  unfold Scan.writes
  cases lineWrite sc.image .merge current <;> cases lineWrite sc.proof .merge current <;>
    cases lineWrite sc.strays .upstream none <;> rfl

/-- Outside a frame all beats of a capture are stray (R12). -/
theorem translate_stray {w : WriteReq} {s : State} (hf : s.frameCtx = none) (hb : w.beats ≠ []) :
    s.translate w = { s.scanStart with
      stray := min 4294967295 (s.merge.stray + w.beats.length), strays := writeWords w } := by
  have hne : writeWords w ≠ [] := by
    rw [← List.length_pos_iff_ne_nil, writeWords_length]
    exact List.length_pos_iff_ne_nil.2 hb
  rw [State.translate, hf, foldl_strayBeat _ hne, writeWords_length]
  rfl

/-- A capture that has its places enters whole, while its frame goes on (R11, R19). -/
theorem capture_enters {w : WriteReq} {s : State} (hplace : s.canPlace (s.queueWrites .capture w) = true)
    (hgo : (s.translate w).complete = false) :
    let sc := s.translate w
    let ws := sc.writes s.seq.current
    let a := s.placeAll ws
    s.postWrite .capture w = { a with
      merge := { a.merge with counter := sc.counter, dark := sc.dark, clip := sc.clip, stray := sc.stray }
      port := { s.port with turn := s.turnAfter ws, answers := s.answered w.master .ok [] } } := by
  intro sc ws a
  rw [postWrite_enters hplace, enterWrite_goesOn_atPort _ _ hgo]
  obtain ⟨q, lc, ha⟩ := placeAll_changes ws s
  rw [show a = _ from ha]
  simp only [show s.placeAll ((s.translate w).writes s.seq.current) = _ from ha]
  rfl

/-- Settles O17: outside a frame the translation is all stray, so its one write is that of a plain write. -/
theorem captureOutsideFrameIsStray : Obligations.CaptureOutsideFrameIsStray := by
  unfold Obligations.CaptureOutsideFrameIsStray
  intro w s htakes hclass hframe hb a
  have htr := translate_stray (frameCtx_closed hframe) hb
  have hgo : (s.translate w).complete = false := by simp [htr, State.scanStart]
  have hws : (s.translate w).writes s.seq.current = (lineWrite (writeWords w) .upstream none).toList := by
    simp [writes_eq, htr, State.scanStart, lineWrite]
  have heff := capture_effect htakes hclass
  refine ⟨fun hnone => exec_of_effect (heff.trans ?_),
    fun q hq => ⟨fun hroom => exec_of_effect (heff.trans ?_), fun hno => exec_of_effect (heff.trans ?_)⟩⟩
  · rw [hnone] at hws
    have hplace : s.canPlace (s.queueWrites .capture w) = true := by
      simp [State.queueWrites, hws, canPlace_iff, Pwq.need]
    rw [capture_enters hplace hgo, hws, htr]
    rfl
  · rw [hq] at hws
    have hplace : s.canPlace (s.queueWrites .capture w) = true := by
      simpa [State.queueWrites, hws] using (canPlace_one s q).2 hroom
    have hone : s.placeAll [q] = { s with pwq := s.pwq.place q } := placeOne_plain q s (lineWrite_some hq).2.1
    rw [capture_enters hplace hgo, hws]
    simp [hone, htr, State.posted, State.answered, State.turnAfter, State.scanStart, a]
  · rw [hq] at hws
    have hplace : s.canPlace (s.queueWrites .capture w) = false := by
      rw [← Bool.not_eq_true]
      simpa [State.queueWrites, hws] using fun h => hno ((canPlace_one s q).1 h)
    exact postWrite_held hplace

/-! ### The bytes of a queue write (R16, R195) -/

/-- The byte that a word enables at a place of its line. -/
def WordWrite.byteAt (k : Fin 32) (y : WordWrite) : Option Byte :=
  if y.addr % 32 / 4 = k.val / 4 ∧ y.be.getLsbD (k.val % 4) = true then
    some (y.data.extractLsb' (8 * (k.val % 4)) 8) else none

theorem wordBytes_getElem (y : WordWrite) (k : Fin 32) :
    (wordBytes (wordPos y.addr) y.data y.be)[k] = y.byteAt k := by
  simp [wordBytes, WordWrite.byteAt, wordPos, byteOf, @eq_comm _ (k.val / 4)]

/-- Later words over earlier ones: a byte is that of the last word that enables it. -/
theorem gather_getElem (ws : List WordWrite) (k : Fin 32) :
    (gather ws)[k] = ws.reverse.findSome? (WordWrite.byteAt k) := by
  have hfold : ∀ (ws : List WordWrite) (acc : LineBytes),
      (ws.foldl (fun acc w => overlay acc (wordBytes (wordPos w.addr) w.data w.be)) acc)[k] =
        (ws.reverse.findSome? (WordWrite.byteAt k)).or acc[k] := by
    intro ws
    induction ws with
    | nil => intro acc; rfl
    | cons w ws ih =>
      intro acc
      have hover : (overlay acc (wordBytes (wordPos w.addr) w.data w.be))[k] = (w.byteAt k).or acc[k] := by
        rw [overlay_getElem, wordBytes_getElem]
        cases w.byteAt k <;> rfl
      have hlast : [w].findSome? (WordWrite.byteAt k) = w.byteAt k := by
        cases h : w.byteAt k <;> simp [h]
      rw [List.foldl_cons, ih, hover, List.reverse_cons, List.findSome?_append, Option.or_assoc, hlast]
  exact (hfold ws noBytes).trans (by simp [noBytes])

theorem anyByte_iff (b : LineBytes) : anyByte b = true ↔ ∃ k : Fin 32, b[k].isSome = true := by
  simp only [anyByte, Vector.any_toList, Vector.any_eq_true]
  exact ⟨fun ⟨i, hi, h⟩ => ⟨⟨i, hi⟩, h⟩, fun ⟨k, h⟩ => ⟨k.val, k.isLt, h⟩⟩

theorem byteAt_none_iff (y : WordWrite) : (∀ k, y.byteAt k = none) ↔ y.be = 0 := by
  constructor
  · intro h
    refine BitVec.eq_of_getLsbD_eq fun j hj => ?_
    have hk := h ⟨y.addr % 32 / 4 * 4 + j, by omega⟩
    have hpos : (y.addr % 32 / 4 * 4 + j) / 4 = y.addr % 32 / 4 := by omega
    have hbit : (y.addr % 32 / 4 * 4 + j) % 4 = j := by omega
    simpa [WordWrite.byteAt, hpos, hbit] using hk
  · intro h k
    simp [WordWrite.byteAt, h]

theorem gather_empty_iff (ws : List WordWrite) : anyByte (gather ws) = false ↔ ∀ y ∈ ws, y.be = 0 := by
  rw [← Bool.not_eq_true, anyByte_iff]
  simp only [gather_getElem, ← byteAt_none_iff, not_exists, Bool.not_eq_true, Option.isSome_eq_false_iff,
    Option.isNone_iff_eq_none, List.findSome?_eq_none_iff, List.mem_reverse]
  exact ⟨fun h y hy k => h k y hy, fun h k y hy => h y hy k⟩

theorem lineWrite_none_iff (x : WordWrite) (rest : List WordWrite) (source : Source) (ref : Option TileNo) :
    lineWrite (x :: rest) source ref = none ↔ ∀ y ∈ x :: rest, y.be = 0 := by
  rw [← gather_empty_iff]
  simp [lineWrite]

theorem lineWrite_place {x : WordWrite} {rest : List WordWrite} {source : Source} {ref : Option TileNo} {q : QWrite}
    (h : lineWrite (x :: rest) source ref = some q) :
    q.line = x.addr / 32 * 32 ∧ q.bytes = gather (x :: rest) := by
  simp only [lineWrite, Option.ite_none_right_eq_some, Option.some.injEq] at h
  obtain ⟨-, hq⟩ := h
  exact ⟨by simp [← hq, lineOf], by simp [← hq]⟩

/-- Settles O18: `capture_enters` and `postWrite_held` give the two courses, `frameCtx_open` the frame, `writes_eq` and
`gather_getElem` what is written. -/
theorem captureIntoOpenFrame : Obligations.CaptureIntoOpenFrame := by
  unfold Obligations.CaptureIntoOpenFrame
  refine ⟨fun w s htakes hclass => ?_, fun w s => rfl, fun s => ?_, writes_eq, fun x rest source ref => ?_⟩
  · intro sc ws a
    have heff := capture_effect htakes hclass
    refine ⟨fun hneed hgo => exec_of_effect (heff.trans ?_), fun hneed => exec_of_effect (heff.trans ?_)⟩
    · exact capture_enters ((canPlace_iff ws s).2 hneed) hgo
    · exact postWrite_held (Bool.eq_false_iff.2 fun h => absurd ((canPlace_iff ws s).1 h) (by omega))
  · exact ⟨frameCtx_closed, fun t tile plate st x => frameCtx_open⟩
  · refine ⟨rfl, lineWrite_none_iff x rest source ref, fun q hq => ?_⟩
    obtain ⟨hsource, href, hheader, -⟩ := lineWrite_some hq
    obtain ⟨hline, hbytes⟩ := lineWrite_place hq
    refine ⟨hline, hsource, href, hheader, fun k => ?_⟩
    rw [hbytes]
    exact gather_getElem (x :: rest) k

/-! ### The held write (R101, R112, R113) -/

theorem heldMayEnter_iff (ws : List QWrite) (s : State) :
    s.heldMayEnter ws = true ↔ s.pwq.need ws = 0
      ∨ (s.pwq.need ws ≤ s.pwq.free ∧ ¬(s.report.waits = true ∧ s.port.turn = .report)) := by
  simp only [State.heldMayEnter, Bool.or_eq_true, beq_iff_eq, Bool.and_eq_true, decide_eq_true_eq, Bool.not_eq_true',
    ← Bool.not_eq_true]

/-- One held write may enter when it merges, or an entry is free and not kept for the Report Writer side (R113). -/
theorem heldMayEnter_one (q : QWrite) (s : State) :
    s.heldMayEnter [q] = true ↔ s.pwq.hasWaiting q.line = true
      ∨ (s.pwq.entries.length < 16 ∧ ¬(s.report.waits = true ∧ s.port.turn = .report)) := by
  rw [heldMayEnter_iff]
  cases h : s.pwq.hasWaiting q.line <;> simp [Pwq.need, Pwq.free, h, Config.pwqPlaces]
  omega

/-- The state with the held write's place free and its capture master released (R101, R102). -/
def State.freed (m : Master) (s : State) : State :=
  s.atPort { s.port with held := none } (if s.plan.station.any (·.captureMaster == m) then false else s.seq.captureHeld)

/-- The held write enters as a decoded write does, from the port freed of it. -/
theorem heldWriteEntry_enters {s : State} {w : WriteReq} {c : WriteClass}
    (hheld : s.port.held = some { req := w, cls := c }) (hmay : s.heldMayEnter (s.queueWrites c w) = true) :
    heldWriteEntry s =
      ((((s.freed w.master).atPort { s.port with held := none, turn := s.turnAfter (s.queueWrites c w) }
        (s.freed w.master).seq.captureHeld).enterWrite c w).answer w.master .ok []).presentDeferred := by
  simp only [heldWriteEntry, hheld, hmay, if_true, passTurn_eq, releaseHeld_eq]
  rfl

theorem heldWriteEntry_waits {s : State} {w : WriteReq} {c : WriteClass}
    (hheld : s.port.held = some { req := w, cls := c }) (hmay : s.heldMayEnter (s.queueWrites c w) = false) :
    heldWriteEntry s = s := by
  simp [heldWriteEntry, hheld, hmay]

theorem heldWriteEntry_none {s : State} (h : s.port.held = none) : heldWriteEntry s = s := by
  simp [heldWriteEntry, h]

theorem presentDeferred_deferred {s : State} {k : Take} (hf : s.down.fetch = .deferred) (hk : s.plan.take = some k) :
    s.presentDeferred = { s with down := { s.down with fetch := s.presented k.slot 7 } } := by
  simp [State.presentDeferred, hf, hk, presentFetch_eq]

theorem presentDeferred_other {s : State} (h : s.down.fetch ≠ .deferred) : s.presentDeferred = s := by
  unfold State.presentDeferred
  split
  · contradiction
  · rfl

/-- A held write other than a capture enters with its one queue write. -/
theorem heldWriteEntry_posted {s : State} {w : WriteReq} {c : WriteClass} {q : QWrite}
    (hheld : s.port.held = some { req := w, cls := c }) (hc : c ≠ .capture) (hr : c ≠ .heldWrite)
    (hq : lineWrite (writeWords w) .upstream none = some q) (hmay : s.heldMayEnter [q] = true) :
    heldWriteEntry s = ((s.freed w.master).posted q w.master).presentDeferred := by
  have hws : ∀ u : State, u.queueWrites c w = [q] := fun u => by rw [queueWrites_plain c hc hr, hq]; rfl
  have hone : ∀ u : State, u.enterWrite c w = { u with pwq := u.pwq.place q } := fun u => by
    rw [enterWrite_plain c hc, hws]
    exact placeOne_plain q u (lineWrite_some hq).2.1
  rw [heldWriteEntry_enters hheld (by rwa [hws]), hone, hws]
  congr 1
  simp [State.posted, State.freed, State.turnAfter, State.atPort, State.answer, State.answered]

/-- A held capture enters as one that the port takes once it is free, against the Merge Unit as it stands (R101). -/
theorem heldWriteEntry_capture {s : State} {w : WriteReq} (hheld : s.port.held = some { req := w, cls := .capture })
    (hf : s.down.fetch ≠ .deferred) (hmay : s.heldMayEnter (s.queueWrites .capture w) = true) :
    heldWriteEntry s = (s.freed w.master).postWrite .capture w := by
  have hplace : (s.freed w.master).canPlace ((s.freed w.master).queueWrites .capture w) = true := by
    have hneed := (heldMayEnter_iff _ s).1 hmay
    exact (canPlace_iff (s.queueWrites .capture w) s).2 (by omega)
  rw [heldWriteEntry_enters hheld hmay, presentDeferred_other (by simpa [State.freed, State.atPort] using hf),
    postWrite_enters hplace]
  rfl

/-- Settles O21: `heldWriteEntry_posted` and `heldWriteEntry_capture` give the entry, `heldWriteEntry_waits` the
waiting. -/
theorem heldWriteEnters : Obligations.HeldWriteEnters := by
  unfold Obligations.HeldWriteEnters
  refine ⟨?_, ?_, ?_, ?_, fun s h => exec_of_effect (heldWriteEntry_none h)⟩
  · intro s w c q hheld hc hr hq a may
    have hmay : s.heldMayEnter [q] = true ↔ may := heldMayEnter_one q s
    have hws : s.queueWrites c w = [q] := by rw [queueWrites_plain c hc hr, hq]; rfl
    refine ⟨fun h => ?_, fun h => exec_of_effect (heldWriteEntry_waits hheld ?_)⟩
    · have hpost := heldWriteEntry_posted hheld hc hr hq (hmay.2 h)
      exact ⟨fun k hf hk => exec_of_effect (hpost.trans (presentDeferred_deferred hf hk)),
        fun hf => exec_of_effect (hpost.trans (presentDeferred_other hf))⟩
    · rw [hws]
      exact Bool.eq_false_iff.2 fun hm => h (hmay.1 hm)
  · intro s w hheld hf sc ws a hneed hgo
    have hmay : s.heldMayEnter (s.queueWrites .capture w) = true := (heldMayEnter_iff ws s).2 hneed
    have hplace : (s.freed w.master).canPlace ((s.freed w.master).queueWrites .capture w) = true :=
      (canPlace_iff ws s).2 (by omega)
    refine exec_of_effect ((heldWriteEntry_capture hheld hf hmay).trans ((capture_enters hplace hgo).trans ?_))
    obtain ⟨q, lc, ha⟩ := placeAll_changes ws s
    have hfreed : (s.freed w.master).placeAll ws = (s.placeAll ws).atPort { s.port with held := none }
        (if s.plan.station.any (·.captureMaster == w.master) then false else s.seq.captureHeld) :=
      placeAll_atPort ws _ _ s
    have hws : ((s.freed w.master).translate w).writes (s.freed w.master).seq.current = ws := rfl
    rw [hws, hfreed, show a = _ from ha, ha]
    rfl
  · intro s w hheld hf free need hneed htakes hclass
    have hmay : s.heldMayEnter (s.queueWrites .capture w) = true :=
      (heldMayEnter_iff ((s.translate w).writes s.seq.current) s).2 hneed
    exact (exec_of_effect (c := .heldWriteEntry) (heldWriteEntry_capture hheld hf hmay)).trans
      (exec_of_effect (capture_effect htakes hclass)).symm
  · intro s w hheld need hne hwait
    refine exec_of_effect (heldWriteEntry_waits hheld (Bool.eq_false_iff.2 fun hm => ?_))
    rcases (heldMayEnter_iff ((s.translate w).writes s.seq.current) s).1 hm with h | ⟨hle, hturn⟩
    · exact hne h
    · exact hwait.elim (fun hlt => absurd hle (Nat.not_le.2 hlt)) hturn

/-! ### Completion (1.5) -/

/-- A capture that completes its frame hands it over once its writes are taken and its counts stand (R20). -/
theorem enterWrite_completes {w : WriteReq} {s : State} {t : TileNo} {tile : Tile} {plate : Plate}
    (h : (s.translate w).complete = true) (hc : s.currentTile = some (t, tile, plate)) :
    s.enterWrite .capture w =
      ((s.placeAll ((s.translate w).writes s.seq.current)).takeCounts (s.translate w)).completeFrame t tile plate := by
  obtain ⟨q, lc, ha⟩ := placeAll_changes ((s.translate w).writes s.seq.current) s
  have hcur : ((s.placeAll ((s.translate w).writes s.seq.current)).takeCounts (s.translate w)).currentTile =
      some (t, tile, plate) := by
    rw [ha]
    exact hc
  simp [State.enterWrite, State.queueWrites, State.handOver, h, hcur]

/-- R21, R63: with a next exposure and a dark count above 0 the tile returns to ARMED for it. -/
theorem completeFrame_arms {s : State} {t : TileNo} {tile : Tile} {plate : Plate}
    (h : s.merge.exposure + 1 < plate.bracket.length ∧ s.merge.dark ≠ 0) :
    s.completeFrame t tile plate =
      { s.setTile t (some ((tile.addStats s.merge.dark s.merge.clip).arm (s.merge.exposure + 1) s.lamp.zone)) with
        seq := { s.seq with expTimer := none } } := by
  simp only [State.completeFrame, if_pos h]

/-- R64: otherwise the tile enters CLOSING with outcome DONE and the heat value. -/
theorem completeFrame_closes {s : State} {t : TileNo} {tile : Tile} {plate : Plate}
    (h : ¬(s.merge.exposure + 1 < plate.bracket.length ∧ s.merge.dark ≠ 0)) :
    s.completeFrame t tile plate =
      s.closeCurrent t { tile.addStats s.merge.dark s.merge.clip with
        skipped := decide (s.merge.exposure + 1 < plate.bracket.length) } .done (some s.lamp.heat) := by
  simp only [State.completeFrame, if_neg h]

/-- The sequencer, the Merge Unit and the watched target after a tile has entered CLOSING (R64, R67, R73). -/
theorem closeCurrent_leaves (s : State) (t : TileNo) (tile : Tile) (o : ClosingOutcome) (heat : Option Nat) :
    (s.closeCurrent t tile o heat).seq = { s.seq with
        current := none, settleTimer := none, deferred := false, expTimer := none, moveok := true }
      ∧ (s.closeCurrent t tile o heat).merge = { s.merge with frame := .closed, lastCarrier := none }
      ∧ (s.closeCurrent t tile o heat).stage = { s.stage with watched := none } := by
  simp [State.closeCurrent]

/-- Delivery of a fence takes no notice of the port. -/
theorem answer_deliverFence (s : State) (t : TileNo) (m : Master) :
    (s.deliverFence t).answer m .ok [] =
      { s.deliverFence t with port := { s.port with answers := s.answered m .ok [] } } := by
  simp [State.answer, State.answered]

/-- The Merge Unit and the port as a completing capture hands its frame over: the writes taken, the counts standing and
the frame CLOSED (R20). -/
def State.completed (w : WriteReq) (s : State) : State :=
  let sc := s.translate w
  let a := s.placeAll (sc.writes s.seq.current)
  { s with
    pwq := a.pwq
    port := { s.port with turn := s.turnAfter (sc.writes s.seq.current) }
    merge := { s.merge with
      frame := .closed, counter := sc.counter, dark := sc.dark, clip := sc.clip, stray := sc.stray
      lastCarrier := a.merge.lastCarrier } }

theorem capture_completes {w : WriteReq} {s : State} {t : TileNo} {tile : Tile} {plate : Plate}
    (hplace : s.canPlace (s.queueWrites .capture w) = true) (h : (s.translate w).complete = true)
    (hc : s.currentTile = some (t, tile, plate)) :
    s.postWrite .capture w = ((s.completed w).completeFrame t tile plate).answer w.master .ok [] := by
  let p : Port := { s.port with turn := s.turnAfter ((s.translate w).writes s.seq.current) }
  obtain ⟨q, lc, ha⟩ := placeAll_changes ((s.translate w).writes s.seq.current) s
  have hy : ((s.atPort p s.seq.captureHeld).placeAll ((s.translate w).writes s.seq.current)).takeCounts
      (s.translate w) = s.completed w := by
    rw [placeAll_atPort, State.completed, ha]
    simp [State.takeCounts, State.atPort, h, p]
  have henter : (s.atPort p s.seq.captureHeld).enterWrite .capture w = (s.completed w).completeFrame t tile plate :=
    (enterWrite_completes (s := s.atPort p s.seq.captureHeld) h hc).trans
      (congrArg (State.completeFrame t tile plate) hy)
  exact (postWrite_enters hplace).trans (congrArg (State.answer w.master .ok []) henter)

/-- Settles O20: `capture_completes` hands the frame over, and the skip rule is `completeFrame_arms` or
`completeFrame_closes`, the latter with or without a last carrier. -/
theorem completionFollowsTheSkipRule : Obligations.CompletionFollowsTheSkipRule := by
  unfold Obligations.CompletionFollowsTheSkipRule
  intro w s t tile plate htakes hclass sc ws a x next hneed hcomplete hcur
  have heff := (capture_effect htakes hclass).trans (capture_completes ((canPlace_iff ws s).2 hneed) hcomplete hcur)
  refine ⟨_, exec_of_effect heff, ?_⟩
  by_cases hskip : next < plate.bracket.length ∧ sc.dark ≠ 0
  · have harm := completeFrame_arms (s := s.completed w) (t := t) (tile := tile) hskip
    rw [harm]
    refine ⟨rfl, rfl, rfl, fun _ => ⟨?_, rfl, rfl⟩, fun hno => absurd hskip hno⟩
    simp [arm_eq, Tile.addStats, State.completed, x, next, sc]
  · have hclose := completeFrame_closes (s := s.completed w) (t := t) (tile := tile) hskip
    obtain ⟨hseq, hmerge, hstage⟩ := closeCurrent_leaves (s.completed w) t
      { tile.addStats sc.dark sc.clip with skipped := decide (next < plate.bracket.length) } .done (some s.lamp.heat)
    rw [hclose]
    refine ⟨congrArg Merge.frame hmerge, congrArg Merge.stray hmerge, ?_, fun hyes => absurd hyes hskip,
      fun _ => ⟨hseq, congrArg Stage.watched hstage, congrArg Merge.lastCarrier hmerge,
        fun id hid => ?_, fun hnone => ?_⟩⟩
    · simp [State.completed, State.answered]
    · rw [closeCurrent_carrier (s := s.completed w) _ _ _ _ hid]
      exact ⟨setTile_self (s.completed w) t _, rfl⟩
    · rw [closeCurrent_noCarrier (s := s.completed w) _ _ _ _ hnone]
      obtain ⟨q, lc, ha⟩ := placeAll_changes ws s
      have hlc : lc = none := by simpa [a, ha] using hnone
      have hdone : s.completed w = { s with
          pwq := q
          port := { s.port with turn := s.turnAfter ws }
          merge := { s.merge with
            frame := .closed, counter := sc.counter, dark := sc.dark, clip := sc.clip, stray := sc.stray
            lastCarrier := none } } := by
        rw [State.completed, ha, hlc]
      rw [hdone]
      simp only [show a = _ from ha, hlc]
      exact answer_deliverFence _ t w.master

end Sys2Proof.Machine
end

section
/-! PROOFS. One beat of a capture (01): its place, stored values, enables and scores (O19). -/

namespace Sys2Proof.Machine

/-! ### One beat (1.3, 1.4) -/

theorem kept_iff (g : Geometry) (o : Nat) :
    g.kept o = true ↔ g.top ≤ o / g.rowWords ∧ o / g.rowWords < g.height - g.bottom
      ∧ g.left ≤ o % g.rowWords * 2 ∧ o % g.rowWords * 2 + 1 < g.width - g.right := by
  simp [Geometry.kept, and_assoc]

theorem laneComplete_iff (be : BitVec 4) (l : Nat) :
    laneComplete be l = true ↔ be.getLsbD (2 * l) = true ∧ be.getLsbD (2 * l + 1) = true := by
  simp [laneComplete]

theorem laneSample_lt (d : Word) (l : Nat) : laneSample d l < 4096 := Nat.mod_lt _ (by decide)

theorem laneWritten_iff (c : FrameCtx) (w : WordWrite) (l : Nat) :
    laneWritten c w l = true ↔ (w.be.getLsbD (2 * l) = true ∧ w.be.getLsbD (2 * l + 1) = true)
      ∧ (c.first = true ∨ laneSample w.data l < c.exposure.clip) := by
  simp [laneWritten, laneComplete_iff]

/-- A stored value has 16 bits (R15). -/
theorem storedValue_lt {step sample : Nat} (h : sample < 4096) : storedValue step sample < 65536 := by
  have hpow : 2 ^ (4 - step) ≤ 2 ^ 4 := Nat.pow_le_pow_right (by decide) (by omega)
  calc sample * 2 ^ (4 - step) ≤ sample * 2 ^ 4 := Nat.mul_le_mul_left _ hpow
    _ < 65536 := by omega

/-- The image word holds the two stored values, one in each lane (R15, R16). -/
theorem imageWord_data (c : FrameCtx) (o : Nat) (w : WordWrite) (l : Nat) (hl : l < 2) :
    (imageWord c o w).data.toNat / 2 ^ (16 * l) % 65536 = storedValue c.exposure.step (laneSample w.data l) := by
  have h0 := storedValue_lt (step := c.exposure.step) (laneSample_lt w.data 0)
  have h1 := storedValue_lt (step := c.exposure.step) (laneSample_lt w.data 1)
  simp only [imageWord, BitVec.toNat_ofNat]
  interval_cases l <;> omega

/-- Both enables of a lane of the image word are set when the lane is written, else neither (R16). -/
theorem imageWord_be (c : FrameCtx) (o : Nat) (w : WordWrite) (l j : Nat) (hl : l < 2) (hj : j < 2) :
    (imageWord c o w).be.getLsbD (2 * l + j) = laneWritten c w l := by
  simp only [imageWord]
  cases h0 : laneWritten c w 0 <;> cases h1 : laneWritten c w 1 <;> interval_cases l <;> interval_cases j <;>
    simp [h0, h1]

theorem countLanes_eq (w : WordWrite) (p : Nat → Prop) [DecidablePred p] :
    countLanes w (fun x => decide (p x)) = [0, 1].countP fun l =>
      decide ((w.be.getLsbD (2 * l) = true ∧ w.be.getLsbD (2 * l + 1) = true) ∧ p (laneSample w.data l)) := by
  rw [countLanes, List.countP_eq_length_filter]
  congr 2
  funext l
  rw [Bool.eq_iff_iff]
  simp [laneComplete_iff]

theorem beat_frame {c : FrameCtx} {sc : Scan} {w : WordWrite} {o : Nat} (ha : w.addr = c.window + 4 * o)
    (ho : o < c.geo.frameWords) (hc : sc.complete = false) : Scan.beat (some c) sc w = sc.frameBeat c o w := by
  have hword : (w.addr - c.window) / 4 = o := by omega
  have hbase : ¬w.addr < c.window := by omega
  simp [Scan.beat, hword, hbase, hc, ho]

theorem beat_stray {c : FrameCtx} {sc : Scan} {w : WordWrite}
    (h : sc.complete = true ∨ w.addr < c.window ∨ c.geo.frameWords ≤ (w.addr - c.window) / 4) :
    Scan.beat (some c) sc w = sc.strayBeat w := by
  simp only [Scan.beat]
  exact if_pos (by simpa [or_assoc] using h)

/-- Settles O19: a beat is `frameBeat` or `strayBeat`, and `imageWord_data`, `imageWord_be` and `countLanes_eq` give the
bits and the scores of the former. -/
theorem captureBeatsAreTranslated : Obligations.CaptureBeatsAreTranslated := by
  unfold Obligations.CaptureBeatsAreTranslated
  refine ⟨fun c sc w o ha ho hc => ?_, fun c sc w h => beat_stray h⟩
  rw [beat_frame ha ho hc]
  intro t row sample kept whole value written
  have hkept : c.geo.kept o = true ↔ kept := kept_iff c.geo o
  refine ⟨rfl, rfl, rfl, decide_eq_true_iff, fun hno => ?_, fun hyes => ?_, fun b hf hb => ?_, fun hno => ?_⟩
  · simp [t, Scan.frameBeat, hkept, hno]
  · refine ⟨imageWord c o w, ?_, rfl, fun l hl j hj => ?_, imageWord_data c o w, ?_, ?_⟩
    · simp [t, Scan.frameBeat, hkept, hyes]
    · rw [imageWord_be c o w l j hl hj]
      exact laneWritten_iff c w l
    · have hdark : t.dark = min 65535 (sc.dark + countLanes w (· < c.exposure.floor)) := by
        simp [t, Scan.frameBeat, hkept, hyes]
      rw [hdark, countLanes_eq]
      rfl
    · have hclip : t.clip = min 65535 (sc.clip + countLanes w (c.exposure.clip ≤ ·)) := by
        simp [t, Scan.frameBeat, hkept, hyes]
      rw [hclip, countLanes_eq]
      rfl
  · simp [t, Scan.frameBeat, hf, hb]
  · rcases hno with hf | hb
    · simp [t, Scan.frameBeat, hf]
    · cases hf : c.first <;> simp [t, Scan.frameBeat, hf, hb]

end Sys2Proof.Machine
end

section
/-! PROOFS. The fields of a PLATE record (01, 11): their places, checks, ranges and areas (O35). -/

namespace Sys2Proof.Machine

/-! ### Where the fields stand (Table 11-3) -/

theorem bits_eq_extract (w : Word) (lo len : Nat) : bits w lo len = (w.extractLsb' lo len).toNat := by
  simp [bits, BitVec.extractLsb'_toNat, Nat.shiftRight_eq_div_pow]

/-- A word whose value has 24 signed bits keeps it in a 24-bit field (R196). -/
theorem setWidth24_toInt {x : Word} (hlo : -8388608 ≤ x.toInt) (hhi : x.toInt ≤ 8388607) :
    (x.setWidth 24).toInt = x.toInt := by
  have hmod : (x.setWidth 24).toInt = x.toInt.bmod (2 ^ 24) := by
    rw [BitVec.toInt_setWidth, BitVec.toInt_eq_toNat_bmod]
    exact (Int.bmod_bmod_of_dvd (by decide)).symm
  rw [hmod]
  exact Int.bmod_eq_of_le (by omega) (by omega)

/-! ### The checks (Table 1-4, R179) -/

theorem firstFailing_none_iff (cs : List Check) : firstFailing cs = none ↔ ∀ c ∈ cs, c.1 = true := by
  simp [firstFailing]

theorem signed24_iff (w : Word) : signed24 w = true ↔ -8388608 ≤ w.toInt ∧ w.toInt ≤ 8388607 := by
  simp [signed24]

/-- What an exposure's checks establish (row 14 of Table 1-4). -/
structure ExposureHolds (ws : List Word) (e : Nat) : Prop where
  duty : (exposureOf ws e).duty ≤ 1023
  step : (exposureOf ws e).step ≤ 4
  rising : e = 0 ∨ (exposureOf ws (e - 1)).step < (exposureOf ws e).step
  clip : 1 ≤ (exposureOf ws e).clip ∧ (exposureOf ws e).clip ≤ 4095
  floor : (exposureOf ws e).floor < (exposureOf ws e).clip

theorem exposureChecks_iff (ws : List Word) (e : Nat) :
    (∀ c ∈ exposureChecks ws e, c.1 = true) ↔ ExposureHolds ws e := by
  simp only [exposureChecks, List.forall_mem_cons, List.not_mem_nil, false_imp_iff, implies_true, and_true,
    decide_eq_true_eq, Bool.or_eq_true, Bool.and_eq_true, beq_iff_eq]
  exact ⟨fun ⟨h1, h2, h3, h4, h5⟩ => ⟨h1, h2, h3, h4, h5⟩, fun ⟨h1, h2, h3, h4, h5⟩ => ⟨h1, h2, h3, h4, h5⟩⟩

/-- What the field checks of a PLATE record establish (Table 1-4, R179). -/
structure PlateFieldsHold (ws : List Word) : Prop where
  rows : 1 ≤ (geometryOf ws).rows ∧ (geometryOf ws).rows ≤ 8
  cols : 1 ≤ (geometryOf ws).cols ∧ (geometryOf ws).cols ≤ 8
  width : (16 ≤ (geometryOf ws).width ∧ (geometryOf ws).width ≤ 4096) ∧ (geometryOf ws).width % 16 = 0
  height : 16 ≤ (geometryOf ws).height ∧ (geometryOf ws).height ≤ 4096
  keptRows : (geometryOf ws).top + (geometryOf ws).bottom + 1 ≤ (geometryOf ws).height
  left : (geometryOf ws).left % 16 = 0
  right : (geometryOf ws).right % 16 = 0
  keptCols : (geometryOf ws).left + (geometryOf ws).right + 16 ≤ (geometryOf ws).width
  imageBase : (geometryOf ws).imageBase % 32 = 0
  pitch : (geometryOf ws).pitch % 32 = 0
    ∧ (geometryOf ws).cols * (geometryOf ws).keptWidth * 2 ≤ (geometryOf ws).pitch
  image : (geometryOf ws).imageBase + (geometryOf ws).imageArea ≤ 2 ^ 32
  proofBase : (wordAt ws 11).toNat % 32 = 0
  proof : (wordAt ws 11).toNat = 0 ∨ (wordAt ws 11).toNat + (geometryOf ws).proofArea ≤ 2 ^ 32
  exposures : 1 ≤ (wordAt ws 12).toNat ∧ (wordAt ws 12).toNat ≤ 4
  bracket : ∀ e < min (wordAt ws 12).toNat 4, ExposureHolds ws e
  originX : signed24 (wordAt ws 21) = true
  originY : signed24 (wordAt ws 22) = true
  pitchX : signed24 (wordAt ws 23) = true
  pitchY : signed24 (wordAt ws 24) = true
  tolerance : (wordAt ws 25).toNat ≤ 255
  retryLimit : (wordAt ws 26).toNat ≤ 3
  policy : (wordAt ws 27).toNat ≤ 1

theorem plateChecks_pass {ws : List Word} (h : firstFailing (plateChecks ws) = none) : PlateFieldsHold ws := by
  rw [firstFailing_none_iff] at h
  simp only [plateChecks, List.forall_mem_append, List.forall_mem_cons, List.not_mem_nil, false_imp_iff, implies_true,
    and_true, decide_eq_true_eq, Bool.or_eq_true, Bool.and_eq_true, beq_iff_eq, List.forall_mem_flatMap,
    List.mem_range, exposureChecks_iff] at h
  obtain ⟨⟨⟨rows, cols, width, height, keptRows, left, right, keptCols, imageBase, pitch, image, proofBase, proof,
    exposures⟩, bracket⟩, originX, originY, pitchX, pitchY, tolerance, retryLimit, policy⟩ := h
  exact { rows, cols, width, height, keptRows, left, right, keptCols, imageBase, pitch, image, proofBase, proof
          exposures, bracket, originX, originY, pitchX, pitchY, tolerance, retryLimit, policy }

/-- The steps of a bracket rise from exposure to exposure, hence throughout (row 14 of Table 1-4). -/
theorem steps_rise {n : Nat} {f : Nat → Nat} (h : ∀ e < n, e = 0 ∨ f (e - 1) < f e) {i j : Nat} (hij : i < j)
    (hj : j < n) : f i < f j := by
  induction j, hij using Nat.le_induction with
  | base => exact (h (i + 1) hj).resolve_left (by omega)
  | succ j hle ih => exact (ih (by omega)).trans ((h (j + 1) hj).resolve_left (by omega))

theorem bracket_steps_rise {ws : List Word} (h : PlateFieldsHold ws) :
    ((recordPlate ws).bracket.map (·.step)).Pairwise (· < ·) := by
  obtain ⟨hpos, hmax⟩ := h.exposures
  have hrise : ∀ e < (wordAt ws 12).toNat, e = 0 ∨ (exposureOf ws (e - 1)).step < (exposureOf ws e).step :=
    fun e he => (h.bracket e (by omega)).rising
  simp only [recordPlate, plateOf, List.map_map, List.pairwise_map]
  refine List.pairwise_lt_range.imp_of_mem fun {i j} _ hj hij => ?_
  exact steps_rise (f := fun e => (exposureOf ws e).step) hrise hij (List.mem_range.1 hj)

/-- A check of an exposure against its predecessor's step, with the word index of the statement. -/
theorem rising_check (ws : List Word) (e : Nat) :
    (e == 0 || decide ((exposureOf ws (e - 1)).step < (exposureOf ws e).step)) =
      decide (e = 0 ∨ ((wordAt ws (11 + 2 * e)).extractLsb' 16 16).toNat
        < ((wordAt ws (13 + 2 * e)).extractLsb' 16 16).toNat) := by
  cases e with
  | zero => simp
  | succ e =>
    have hword : 13 + 2 * e = 11 + 2 * (e + 1) := by omega
    simp [exposureOf, bits_eq_extract, hword]

/-! ### Areas that stay apart (R179) -/

theorem not_overlaps_iff (a b : Range) : overlaps a b = false ↔ a.1 + a.2 ≤ b.1 ∨ b.1 + b.2 ≤ a.1 := by
  rw [← Bool.not_eq_true]
  simp only [overlaps, Bool.and_eq_true, decide_eq_true_eq]
  omega

theorem areas_eq (x : Plate) :
    x.areas = (x.geo.imageBase, x.geo.rows * (x.geo.height - x.geo.top - x.geo.bottom) * x.geo.pitch)
      :: (match x.proofBase with
        | none => []
        | some b => [(b, x.geo.rows * x.geo.cols * (x.geo.width * x.geo.height * 2))]) := by
  unfold Plate.areas
  cases x.proofBase <;> rfl

theorem mem_takenAreas (s : State) (st : Station) (b : Range) :
    b ∈ s.takenAreas st ↔ (∃ (p : SlotNo) (other : Plate), s.asm.plates[p] = some other ∧ b ∈ other.areas)
      ∨ b = st.window ∨ b = s.planArea ∨ b = st.reportArea := by
  have hplates : ∀ other : Plate, some other ∈ s.asm.plates ↔ ∃ p : SlotNo, s.asm.plates[p] = some other := by
    intro other
    rw [Vector.mem_iff_getElem]
    exact ⟨fun ⟨i, hi, h⟩ => ⟨⟨i, hi⟩, h⟩, fun ⟨p, h⟩ => ⟨p.val, p.isLt, h⟩⟩
  simp only [State.takenAreas, List.mem_append, List.mem_flatMap, List.mem_filterMap, Vector.mem_toList_iff, id,
    exists_eq_right, hplates, List.mem_cons, List.not_mem_nil, or_false]
  exact or_congr_left ⟨fun ⟨other, ⟨p, hp⟩, hb⟩ => ⟨p, other, hp, hb⟩, fun ⟨p, other, hp, hb⟩ => ⟨other, ⟨p, hp⟩, hb⟩⟩

theorem plateApart_iff (s : State) (st : Station) (plate : Plate) :
    s.plateApart st plate = true ↔ plate.areas.Pairwise (fun a b => overlaps a b = false)
      ∧ ∀ a ∈ plate.areas, ∀ b ∈ s.takenAreas st, overlaps a b = false := by
  unfold State.plateApart Plate.areas
  cases plate.proofBase <;> simp

theorem toNat_eq_zero_iff (x : Word) : x.toNat = 0 ↔ x = 0 := by
  rw [← BitVec.toNat_inj]
  rfl

theorem recordPlate_proofBase (ws : List Word) :
    (recordPlate ws).proofBase = if wordAt ws 11 = 0 then none else some (wordAt ws 11).toNat := by
  simp only [recordPlate, plateOf, toNat_eq_zero_iff]

theorem recordPlate_policy (ws : List Word) :
    (recordPlate ws).policy = if wordAt ws 27 = 0 then .wait else .pass := by
  simp only [recordPlate, plateOf, toNat_eq_zero_iff]

theorem recordPlate_bracket (ws : List Word) (e : Nat) (he : e < (wordAt ws 12).toNat) :
    (recordPlate ws).bracket[e]? = some (exposureOf ws e) := by
  simp [recordPlate, plateOf, he]

theorem recordPlate_bracket_length (ws : List Word) : (recordPlate ws).bracket.length = (wordAt ws 12).toNat := by
  simp [recordPlate, plateOf]

theorem exposureOf_eq (ws : List Word) (e : Nat) :
    exposureOf ws e =
      { duty := ((wordAt ws (13 + 2 * e)).extractLsb' 0 16).toNat
        step := ((wordAt ws (13 + 2 * e)).extractLsb' 16 16).toNat
        clip := ((wordAt ws (14 + 2 * e)).extractLsb' 0 16).toNat
        floor := ((wordAt ws (14 + 2 * e)).extractLsb' 16 16).toNat } := by
  simp only [exposureOf, bits_eq_extract]

/-- The plate's positions and pitches are the words' signed values (R196). -/
theorem recordPlate_positions {ws : List Word} (h : PlateFieldsHold ws) :
    (∀ n ∈ [21, 22, 23, 24], -8388608 ≤ (wordAt ws n).toInt ∧ (wordAt ws n).toInt ≤ 8388607)
      ∧ (recordPlate ws).originX.toInt = (wordAt ws 21).toInt ∧ (recordPlate ws).originY.toInt = (wordAt ws 22).toInt
      ∧ (recordPlate ws).pitchX.toInt = (wordAt ws 23).toInt
      ∧ (recordPlate ws).pitchY.toInt = (wordAt ws 24).toInt := by
  have h21 := (signed24_iff _).1 h.originX
  have h22 := (signed24_iff _).1 h.originY
  have h23 := (signed24_iff _).1 h.pitchX
  have h24 := (signed24_iff _).1 h.pitchY
  exact ⟨by simp [h21, h22, h23, h24], setWidth24_toInt h21.1 h21.2, setWidth24_toInt h22.1 h22.2,
    setWidth24_toInt h23.1 h23.2, setWidth24_toInt h24.1 h24.2⟩

theorem mem_bracket {ws : List Word} (h : PlateFieldsHold ws) {x : Exposure} (hx : x ∈ (recordPlate ws).bracket) :
    x.duty ≤ 1023 ∧ x.step ≤ 4 ∧ 1 ≤ x.clip ∧ x.clip ≤ 4095 ∧ x.floor < x.clip := by
  obtain ⟨e, he, rfl⟩ := List.mem_map.1 hx
  have hlt : e < (wordAt ws 12).toNat := List.mem_range.1 he
  have hmax := h.exposures.2
  have hcheck := h.bracket e (by omega)
  exact ⟨hcheck.duty, hcheck.step, hcheck.clip.1, hcheck.clip.2, hcheck.floor⟩

/-- Settles O35: the fields by `exposureOf_eq` and the lemmas of `recordPlate`, the ranges by `plateChecks_pass`, the
areas by `plateApart_iff`. -/
theorem acceptedPlateFieldsAreInRange : Obligations.AcceptedPlateFieldsAreInRange := by
  unfold Obligations.AcceptedPlateFieldsAreInRange
  refine ⟨fun ws => ?_, fun ws => ?_, fun s st plate => ?_, fun ws h => ?_⟩
  · intro w plate
    refine ⟨rfl, rfl, rfl, recordPlate_proofBase ws, recordPlate_bracket_length ws, fun e he => ?_, rfl, rfl,
      recordPlate_policy ws, fun h => ?_⟩
    · exact (recordPlate_bracket ws e he).trans (congrArg some (exposureOf_eq ws e))
    · have hf := plateChecks_pass h
      obtain ⟨hsigned, hpositions⟩ := recordPlate_positions hf
      exact ⟨hsigned, hf.policy, hpositions⟩
  · intro w v half rows cols width height kept imageArea proofArea exposure signed
    have hexp : exposureChecks ws = exposure := by
      funext e
      simp only [exposureChecks, rising_check]
      simp only [exposureOf_eq, ← Bool.decide_and]
      rfl
    have hsigned : ∀ n, (signed24 (wordAt ws n), n) = signed n := fun n => by
      simp only [signed24, ← Bool.decide_and]
      rfl
    refine congrArg (fun cs : List Check => (cs.find? fun c => !c.1).map (·.2)) (?_ : plateChecks ws = _)
    simp only [plateChecks, hexp, hsigned, beq_eq_decide, ← Bool.decide_and, ← Bool.decide_or, and_assoc]
    rfl
  · intro apart areas
    have hareas : ∀ x, x.areas = areas x := areas_eq
    have hapart : ∀ a b, overlaps a b = false ↔ apart a b := not_overlaps_iff
    simp only [plateApart_iff, hareas, hapart, mem_takenAreas]
    refine and_congr_right fun _ => ⟨fun h a ha => ⟨fun p other hp b hb => ?_, ?_, ?_, ?_⟩, fun h a ha b hb => ?_⟩
    · exact h a ha b (.inl ⟨p, other, hp, hb⟩)
    · exact h a ha _ (.inr (.inl rfl))
    · exact h a ha _ (.inr (.inr (.inl rfl)))
    · exact h a ha _ (.inr (.inr (.inr rfl)))
    · obtain ⟨hplates, hwindow, hplan, hreport⟩ := h a ha
      rcases hb with ⟨p, other, hp, hb⟩ | rfl | rfl | rfl
      · exact hplates p other hp b hb
      · exact hwindow
      · exact hplan
      · exact hreport
  · intro g plate
    have hf := plateChecks_pass h
    obtain ⟨⟨hwide, hnarrow⟩, hwidth⟩ := hf.width
    refine ⟨hf.rows.1, hf.rows.2, hf.cols.1, hf.cols.2, hwide, hnarrow, hwidth, hf.height.1, hf.height.2,
      hf.keptRows, hf.left, hf.right, hf.keptCols, hf.imageBase, hf.pitch.1, hf.pitch.2, hf.image, fun b hb => ?_,
      hf.exposures.1.trans_eq (recordPlate_bracket_length ws).symm,
      (recordPlate_bracket_length ws).trans_le hf.exposures.2, fun x => mem_bracket hf, bracket_steps_rise hf,
      hf.tolerance, hf.retryLimit⟩
    have hb' := (recordPlate_proofBase ws).symm.trans hb
    simp only [Option.ite_none_left_eq_some, Option.some.injEq] at hb'
    obtain ⟨hpresent, rfl⟩ := hb'
    exact ⟨hf.proofBase, hf.proof.resolve_left fun h0 => hpresent ((toNat_eq_zero_iff _).1 h0)⟩

end Sys2Proof.Machine
end

section
/-! PROOFS. A DISMISS of an ASSEMBLING plate (02): the fold of each of its steps, and their composition (O38). -/

namespace Sys2Proof.Machine

/-! ### Folds over the tables -/

/-- A fold that changes one tile in each turn changes every tile of a list without repetition once. -/
theorem foldl_tiles {g : State → TileNo → State} {f : Option Tile → Option Tile}
    (hg : ∀ s t (x : TileNo), (g s t).asm.tiles[x] = if x = t then f s.asm.tiles[x] else s.asm.tiles[x])
    (l : List TileNo) (hl : l.Nodup) (s : State) (x : TileNo) :
    (l.foldl g s).asm.tiles[x] = if x ∈ l then f s.asm.tiles[x] else s.asm.tiles[x] := by
  induction l generalizing s with
  | nil => simp
  | cons t l ih =>
    obtain ⟨ht, hl⟩ := List.nodup_cons.1 hl
    rw [List.foldl_cons, ih hl, hg]
    by_cases hxt : x = t
    · subst hxt
      simp [ht]
    · simp [hxt]

/-! ### Reservations given up (R40) -/

/-- The places that an entry of the Tile Table holds. -/
def State.placesOf (s : State) (t : TileNo) : Nat := (s.asm.tiles[t].map (·.reservation)).getD 0

theorem giveUpTile_tiles (s : State) (t x : TileNo) :
    (s.giveUpTile t).asm.tiles[x] =
      if x = t then s.asm.tiles[x].map (fun tile => { tile with reservation := 0 }) else s.asm.tiles[x] := by
  unfold State.giveUpTile
  split
  · next h =>
    split
    · next hx => simp [hx, h]
    · rfl
  · next tile h =>
    rw [setTile_tiles]
    split
    · next hx => simp [hx, h]
    · rfl

theorem giveUpTile_report (s : State) (t : TileNo) :
    (s.giveUpTile t).report = { s.report with reserved := s.report.reserved - s.placesOf t } := by
  unfold State.giveUpTile State.placesOf
  split
  · next h => simp [h]
  · next tile h => simp [h]

/-- Tiles that give up their places give up the sum of them. -/
theorem foldGiveUpTile_report (l : List TileNo) (hl : l.Nodup) (s : State) :
    (l.foldl (fun s t => s.giveUpTile t) s).report =
      { s.report with reserved := s.report.reserved - (l.map s.placesOf).sum } := by
  induction l generalizing s with
  | nil => simp
  | cons t l ih =>
    obtain ⟨ht, hl⟩ := List.nodup_cons.1 hl
    have hsame : l.map (s.giveUpTile t).placesOf = l.map s.placesOf := by
      refine List.map_congr_left fun x hx => ?_
      have hne : x ≠ t := fun h => ht (h ▸ hx)
      simp only [State.placesOf, giveUpTile_tiles, hne, if_false]
    rw [List.foldl_cons, ih hl, hsame, giveUpTile_report]
    simp [Nat.sub_sub]

/-! ### Holds freed and reads sent on (R81) -/

theorem foldSetHold_pool (hs : List HoldNo) (s : State) (g : HoldNo) :
    (hs.foldl (fun s h => s.setHold h none) s).hold.pool[g] = if g ∈ hs then none else s.hold.pool[g] := by
  induction hs generalizing s with
  | nil => simp
  | cons h hs ih =>
    rw [List.foldl_cons, ih, setHold_pool]
    by_cases hg : g = h <;> simp [hg]

theorem foldSetHold_queue (hs : List HoldNo) (s : State) :
    (hs.foldl (fun s h => s.setHold h none) s).hold.queue = s.hold.queue :=
  foldl_keeps (fun s => s.hold.queue) (fun s h => s.setHold h none) (fun _ _ => rfl) hs s

theorem dismissHolds_hold (hs : List HoldNo) (s : State) :
    (s.dismissHolds hs).hold =
      { (hs.foldl (fun s h => s.setHold h none) s).hold with
        queue := s.hold.queue.filter fun r => !hs.contains r.hold } := by
  rw [State.dismissHolds, State.takeOut, foldl_keeps State.hold _ (fun s r => by simp)]
  simp only [foldSetHold_queue]

/-- What a read that is sent on meets alike in two states: the reads on their way, the report side, the station and the
queue's snapshots. -/
structure SameWay (a b : State) : Prop where
  reads : a.reads = b.reads
  report : a.report = b.report
  station : a.plan.station = b.plan.station
  snapshot : ∀ line, a.pwq.snapshot line = b.pwq.snapshot line

theorem forwardStale_sameWay {a b : State} (h : SameWay a b) (cause : StaleCause) (r : HeldRead) :
    SameWay (a.forwardStale cause r) (b.forwardStale cause r) := by
  obtain ⟨hreads, hreport, hstation, hsnapshot⟩ := h
  have hforward : (a.forward (r.toRead true)).reads = (b.forward (r.toRead true)).reads := by
    simp only [State.forward, hsnapshot, hreads]
    split <;> rfl
  refine ⟨by simpa [State.forwardStale] using hforward, ?_, by simpa using hstation, by simpa using hsnapshot⟩
  simp only [State.forwardStale, State.offer, forward_frame, hstation, hreport]
  split
  · simpa using hreport
  · split <;> simp

theorem foldForwardStale_sameWay (cause : StaleCause) (rs : List HeldRead) {a b : State} (h : SameWay a b) :
    SameWay (rs.foldl (fun s r => s.forwardStale cause r) a) (rs.foldl (fun s r => s.forwardStale cause r) b) := by
  induction rs generalizing a b with
  | nil => exact h
  | cons r rs ih => exact ih (forwardStale_sameWay h cause r)

/-! ### Steps 2 to 5 of R46 -/

/-- Steps 2 to 4 of R46 and the plate's new state, before it is asked whether the plate is FREE. -/
def State.discarded (p : SlotNo) (plate : Plate) (s : State) : State :=
  let s := plate.tiles.foldl (fun s t => s.modTile t Tile.discard) s
  let s := plate.tiles.foldl (fun s t => s.giveUpTile t) s
  let s := s.dismissHolds (plate.bandHolds.filterMap id)
  s.modPlate p fun pl =>
    { pl with state := .dismissing plate.tilesDone plate.tilesFailed, bandHolds := pl.bandHolds.map fun _ => none }

/-- A tile after steps 2 and 3 of R46. -/
def Tile.dropped (tile : Tile) : Tile := { tile.discard with reservation := 0 }

theorem discard_reservation (tile : Tile) : tile.discard.reservation = tile.reservation := by
  unfold Tile.discard
  split <;> rfl

theorem discarded_tiles (p : SlotNo) (plate : Plate) (hl : plate.tiles.Nodup) (s : State) (x : TileNo) :
    (s.discarded p plate).asm.tiles[x] =
      if x ∈ plate.tiles then s.asm.tiles[x].map Tile.dropped else s.asm.tiles[x] := by
  have hgive := foldl_tiles (f := Option.map fun tile => { tile with reservation := 0 }) giveUpTile_tiles plate.tiles hl
    (plate.tiles.foldl (fun s t => s.modTile t Tile.discard) s) x
  have hdisc := foldl_tiles (f := Option.map Tile.discard) (fun s t x => modTile_tiles s t x Tile.discard) plate.tiles
    hl s x
  simp only [State.discarded, modPlate_asm, dismissHolds_frame, hgive, hdisc]
  split
  · rw [Option.map_map]
    rfl
  · rfl

/-- The plate of a DISMISS while it waits for its CLOSING tiles (R46). -/
def Plate.dismissing (taken pl : Plate) : Plate :=
  { pl with
    state := .dismissing taken.tilesDone taken.tilesFailed, bandHolds := pl.bandHolds.map fun _ => none }

theorem discarded_plates (p q : SlotNo) (plate : Plate) (s : State) :
    (s.discarded p plate).asm.plates[q] =
      if q = p then s.asm.plates[q].map plate.dismissing else s.asm.plates[q] := by
  have hplates : (plate.tiles.foldl (fun s t => s.giveUpTile t)
      (plate.tiles.foldl (fun s t => s.modTile t Tile.discard) s)).asm.plates = s.asm.plates :=
    (foldl_keeps (fun s => s.asm.plates) (fun s t => s.giveUpTile t)
      (fun s t => by unfold State.giveUpTile; split <;> rfl) _ _).trans
      (foldl_keeps (fun s => s.asm.plates) (fun s t => s.modTile t Tile.discard) (fun _ _ => rfl) _ s)
  simp only [State.discarded, modPlate_plates, dismissHolds_frame, hplates]
  rfl

theorem discarded_places (plate : Plate) (hl : plate.tiles.Nodup) (s : State) :
    (plate.tiles.foldl (fun s t => s.giveUpTile t) (plate.tiles.foldl (fun s t => s.modTile t Tile.discard) s)).report =
      { s.report with reserved := s.report.reserved - (plate.tiles.map s.placesOf).sum } := by
  have hreport : (plate.tiles.foldl (fun s t => s.modTile t Tile.discard) s).report = s.report := by simp
  have hsame : plate.tiles.map (plate.tiles.foldl (fun s t => s.modTile t Tile.discard) s).placesOf =
      plate.tiles.map s.placesOf := by
    refine List.map_congr_left fun x hx => ?_
    rw [State.placesOf, foldl_tiles (f := Option.map Tile.discard) (fun s t x => modTile_tiles s t x Tile.discard) _ hl,
      if_pos hx, Option.map_map]
    simp only [State.placesOf, Function.comp_def, discard_reservation]
  rw [foldGiveUpTile_report _ hl, hreport, hsame]

theorem contains_bandHolds (plate : Plate) (h : HoldNo) :
    (plate.bandHolds.filterMap id).contains h = decide (some h ∈ plate.bandHolds) := by
  rw [Bool.eq_iff_iff]
  simp

theorem discarded_hold (p : SlotNo) (plate : Plate) (s : State) :
    (∀ h : HoldNo, (s.discarded p plate).hold.pool[h] = if some h ∈ plate.bandHolds then none else s.hold.pool[h])
      ∧ (s.discarded p plate).hold.queue = s.hold.queue.filter fun r => !decide (some r.hold ∈ plate.bandHolds) := by
  simp only [State.discarded, modPlate_hold, dismissHolds_hold, foldSetHold_pool, foldGiveUpTile_frame,
    foldModTile_frame, contains_bandHolds]
  simp

/-- The reads that wait on some holds are sent on as from any state that they meet alike (R81). -/
theorem dismissHolds_sameWay (hs : List HoldNo) {s b : State} (h : SameWay s b) :
    SameWay (s.dismissHolds hs)
      ((s.hold.queue.filter fun r => hs.contains r.hold).foldl (fun v r => v.forwardStale .dismiss r) b) := by
  obtain ⟨hreads, hreport, hstation, hsnapshot⟩ := h
  rw [State.dismissHolds, State.takeOut, foldSetHold_queue]
  exact foldForwardStale_sameWay .dismiss _
    ⟨by simpa using hreads, by simpa using hreport, by simpa using hstation, by simpa using hsnapshot⟩

theorem discarded_sameWay (p : SlotNo) (plate : Plate) (hl : plate.tiles.Nodup) {s b : State}
    (h : SameWay { s with
      report := { s.report with reserved := s.report.reserved - (plate.tiles.map s.placesOf).sum } } b) :
    SameWay (s.discarded p plate)
      ((s.hold.queue.filter fun r => decide (some r.hold ∈ plate.bandHolds)).foldl
        (fun v r => v.forwardStale .dismiss r) b) := by
  obtain ⟨hreads, hreport, hstation, hsnapshot⟩ := h
  let g := plate.tiles.foldl (fun s t => s.giveUpTile t) (plate.tiles.foldl (fun s t => s.modTile t Tile.discard) s)
  have hg : SameWay g b :=
    ⟨by simpa [g] using hreads, (discarded_places plate hl s).trans hreport, by simpa [g] using hstation,
      by simpa [g] using hsnapshot⟩
  have hq : g.hold.queue = s.hold.queue := by simp [g]
  have hsent := dismissHolds_sameWay (plate.bandHolds.filterMap id) hg
  simp only [hq, contains_bandHolds] at hsent
  exact ⟨hsent.reads, hsent.report, hsent.station, hsent.snapshot⟩

theorem discarded_pwq (p : SlotNo) (plate : Plate) (s : State) : (s.discarded p plate).pwq = s.pwq := by
  simp [State.discarded]

theorem discarded_frame (p : SlotNo) (plate : Plate) (s : State) :
    (s.discarded p plate).port = s.port ∧ (s.discarded p plate).merge = s.merge ∧ (s.discarded p plate).seq = s.seq
      ∧ (s.discarded p plate).stage = s.stage ∧ (s.discarded p plate).lamp = s.lamp
      ∧ (s.discarded p plate).plan = s.plan ∧ (s.discarded p plate).down = s.down
      ∧ (s.discarded p plate).clock = s.clock := by
  simp [State.discarded]

theorem freeIfDone_dismissing {s : State} {p : SlotNo} {pl : Plate} {done failed : Nat}
    (hp : s.asm.plates[p] = some pl) (hs : pl.state = .dismissing done failed) :
    s.freeIfDone p = if s.noneClosing pl then s.freePlate p done failed else s := by
  simp only [State.freeIfDone, hp, hs]

theorem freeIfDone_assembling {s : State} {p : SlotNo} {pl : Plate} (hp : s.asm.plates[p] = some pl)
    (hs : pl.state = .assembling) : s.freeIfDone p = s := by
  simp only [State.freeIfDone, hp, hs]

theorem noneClosing_iff (s : State) (pl : Plate) :
    s.noneClosing pl = true ↔ ∀ t ∈ pl.tiles, s.tileIs Tile.isClosing t = false := by
  simp [State.noneClosing]

/-- What a plate that becomes FREE leaves (R31, R45, R47). -/
theorem freePlate_of_plate {s : State} {p : SlotNo} {pl : Plate} (done failed : Nat) (hl : pl.tiles.Nodup)
    (hp : s.asm.plates[p] = some pl) :
    (∀ q, (s.freePlate p done failed).asm.plates[q] = if q = p then none else s.asm.plates[q])
      ∧ (∀ t : TileNo, (s.freePlate p done failed).asm.tiles[t] = if t ∈ pl.tiles then none else s.asm.tiles[t])
      ∧ (s.freePlate p done failed).report = { s.report with
        queue := s.report.queue ++ [.plateDismissed p pl.tag done failed], reserved := s.report.reserved - 1 }
      ∧ (s.freePlate p done failed).pwq =
        { s.pwq with entries := s.pwq.entries.map (Entry.dropRef pl.tiles) } := by
  have heq : s.freePlate p done failed = ((pl.tiles.foldl (fun s t => s.setTile t none)
      (s.queueEssential (.plateDismissed p pl.tag done failed))).clearRefs pl.tiles).setPlate p none := by
    simp only [State.freePlate, hp]
  rw [heq]
  have htiles := foldl_tiles (f := fun _ => none) (fun s t x => setTile_tiles s t x none) pl.tiles hl
    (s.queueEssential (.plateDismissed p pl.tag done failed))
  have hplates : (pl.tiles.foldl (fun s t => s.setTile t none)
      (s.queueEssential (.plateDismissed p pl.tag done failed))).asm.plates = s.asm.plates :=
    foldl_keeps (fun s => s.asm.plates) (fun s t => s.setTile t none) (fun _ _ => rfl) _ _
  refine ⟨fun q => ?_, htiles, by simp, by simp⟩
  rw [setPlate_plates, clearRefs_asm, hplates]

/-! ### Step 1 of R46 -/

/-- A tile in the sequencer after step 1 of R46: CLOSING with its fence on the last carrier, or, with no carrier, back
in PENDING (R24, R34). -/
def Tile.discardedFrom (carrier : Option Nat) (tile : Tile) : Tile :=
  if carrier.isSome = true then { tile with state := .closing .discarded none }
  else { tile with state := .pending, expIndex := 0, stats := [], skipped := false }

/-- A DISCARDED tile whose fence is delivered is PENDING again (R34). -/
theorem deliverFence_discarded {s : State} {t : TileNo} {tile : Tile} {pl : Plate} {heat : Option Nat}
    (ht : s.asm.tiles[t] = some tile) (hs : tile.state = .closing .discarded heat)
    (hp : s.asm.plates[tile.slot] = some pl) (ha : pl.state = .assembling) :
    s.deliverFence t =
      s.setTile t (some { tile with state := .pending, expIndex := 0, stats := [], skipped := false }) := by
  simp only [State.deliverFence, ht, hs]
  exact freeIfDone_assembling hp ha

/-- The queue with the fence of a tile on its last carrier, if it has one (R24, R119). -/
def Pwq.fencedOn (carrier : Option Nat) (t : TileNo) (q : Pwq) : Pwq :=
  match carrier with
  | none => q
  | some id => { q with entries := q.entries.map (Entry.withFence id t) }

/-- A fence leaves every snapshot as it is. -/
theorem snapshot_fencedOn (carrier : Option Nat) (t : TileNo) (q : Pwq) (line : Nat) :
    (q.fencedOn carrier t).snapshot line = q.snapshot line := by
  cases carrier with
  | none => rfl
  | some id =>
    have hline : ∀ e : Entry, (e.withFence id t).line = e.line := fun e => by unfold Entry.withFence; split <;> rfl
    have hid : ∀ e : Entry, (e.withFence id t).id = e.id := fun e => by unfold Entry.withFence; split <;> rfl
    simp only [Pwq.fencedOn, Pwq.snapshot, List.filter_map, List.map_map, Function.comp_def, hline, hid]

/-- What step 1 of R46 does for the sequencer's tile. -/
theorem closeCurrent_discarded {s : State} {t : TileNo} {tile : Tile} {pl : Plate}
    (hp : s.asm.plates[tile.slot] = some pl) (ha : pl.state = .assembling) :
    s.closeCurrent t tile .discarded none = { s with
      asm := { s.asm with tiles := s.asm.tiles.set t (some (tile.discardedFrom s.merge.lastCarrier)) }
      seq := { s.seq with current := none, settleTimer := none, deferred := false, expTimer := none, moveok := true }
      merge := { s.merge with frame := .closed, lastCarrier := none }
      stage := { s.stage with watched := none }
      pwq := s.pwq.fencedOn s.merge.lastCarrier t } := by
  cases hc : s.merge.lastCarrier with
  | some id =>
    rw [closeCurrent_carrier _ _ _ _ hc]
    rfl
  | none =>
    rw [closeCurrent_noCarrier _ _ _ _ hc]
    have hend := deliverFence_discarded
      (s := (s.setTile t (some { tile with state := .closing .discarded none })).leave)
      (setTile_self s t _) rfl hp ha
    rw [hend]
    simp [State.setTile, State.leave, Tile.discardedFrom, Pwq.fencedOn]

/-- The sequencer holds a tile of the plate in a slot. -/
def State.HoldsTileOf (s : State) (p : SlotNo) : Prop :=
  ∃ t tile, s.seq.current = some t ∧ s.asm.tiles[t] = some tile ∧ tile.slot = p

/-- A tile of the dismissed plate after step 1 of R46. -/
def State.tileAfter (s : State) (x : TileNo) (tile : Tile) : Tile :=
  if s.seq.current = some x then tile.discardedFrom s.merge.lastCarrier else tile

theorem tileAfter_current {s : State} {x : TileNo} (h : s.seq.current = some x) (tile : Tile) :
    s.tileAfter x tile = tile.discardedFrom s.merge.lastCarrier := if_pos h

theorem tileAfter_other {s : State} {x : TileNo} (h : s.seq.current ≠ some x) : s.tileAfter x = id :=
  funext fun _ => if_neg h

theorem tiles_nodup {s : State} (law : AssemblyLaw s) {p : SlotNo} {plate : Plate}
    (hp : s.asm.plates[p] = some plate) : plate.tiles.Nodup := by
  refine List.pairwise_iff_getElem.2 fun i j hi hj hij heq => ?_
  obtain ⟨a, ha, -, hai, -⟩ := law.listed p plate hp i _ (List.getElem?_eq_getElem hi)
  obtain ⟨b, hb, -, hbj, -⟩ := law.listed p plate hp j _ (List.getElem?_eq_getElem hj)
  rw [heq, hb] at ha
  cases ha
  omega

theorem mem_tiles_iff {s : State} (law : AssemblyLaw s) {p : SlotNo} {plate : Plate}
    (hp : s.asm.plates[p] = some plate) (x : TileNo) :
    x ∈ plate.tiles ↔ ∃ tile, s.asm.tiles[x] = some tile ∧ tile.slot = p := by
  constructor
  · intro hx
    obtain ⟨i, hi⟩ := List.mem_iff_getElem?.1 hx
    obtain ⟨tile, ht, hslot, -⟩ := law.listed p plate hp i x hi
    exact ⟨tile, ht, hslot⟩
  · rintro ⟨tile, ht, rfl⟩
    obtain ⟨other, ho, hx⟩ := law.owned x tile ht
    rw [hp] at ho
    cases ho
    exact List.mem_of_getElem? hx

/-- The state as a DISMISS reserves its place and marks the plate (R182, R183). -/
def State.dismissStarted (p : SlotNo) (s : State) : State :=
  (s.reserve 1).modPlate p fun pl => { pl with dismissReserved := true }

theorem dismissStarted_plates {s : State} {p : SlotNo} {plate : Plate} (hp : s.asm.plates[p] = some plate)
    (q : SlotNo) :
    (s.dismissStarted p).asm.plates[q] =
      if q = p then some { plate with dismissReserved := true } else s.asm.plates[q] := by
  rw [State.dismissStarted, modPlate_plates]
  split
  · next h => simp [h, hp]
  · rfl

/-- What step 1 of R46 leaves, for a plate and its slot. -/
structure StepOne (s v : State) (p : SlotNo) (plate : Plate) : Prop where
  plates : ∀ q : SlotNo, v.asm.plates[q] =
    if q = p then some { plate with dismissReserved := true } else s.asm.plates[q]
  tiles : ∀ x : TileNo, v.asm.tiles[x] =
    if x ∈ plate.tiles then s.asm.tiles[x].map (s.tileAfter x) else s.asm.tiles[x]
  reads : v.reads = s.reads
  report : v.report = { s.report with reserved := s.report.reserved + 1 }
  hold : v.hold = s.hold
  snapshot : ∀ line, v.pwq.snapshot line = s.pwq.snapshot line
  left : s.HoldsTileOf p → v.seq = { s.seq with
      current := none, settleTimer := none, deferred := false, expTimer := none, moveok := true }
    ∧ v.merge = { s.merge with frame := .closed, lastCarrier := none }
    ∧ v.stage = { s.stage with watched := none }
  kept : ¬s.HoldsTileOf p → v.seq = s.seq ∧ v.merge = s.merge ∧ v.stage = s.stage
  fenced : ∀ t id, s.seq.current = some t → s.HoldsTileOf p → s.merge.lastCarrier = some id →
    v.pwq = { s.pwq with entries := s.pwq.entries.map (Entry.withFence id t) }
  unfenced : ¬s.HoldsTileOf p ∨ s.merge.lastCarrier = none → v.pwq = s.pwq

theorem dismissStarted_current {s : State} (law : AssemblyLaw s) {p : SlotNo} {plate : Plate} {t : TileNo} {tile : Tile}
    (hp : s.asm.plates[p] = some plate) (hc : s.seq.current = some t) (ht : s.asm.tiles[t] = some tile)
    (hslot : tile.slot = p) :
    (s.dismissStarted p).currentTile = some (t, tile, { plate with dismissReserved := true }) := by
  have hactive : tile.active = true := by simpa [State.tileIs, ht] using (law.active t).2 hc
  refine currentTile_some.2 ⟨hc, ht, ?_, hactive⟩
  exact (dismissStarted_plates hp tile.slot).trans (if_pos hslot)

theorem stepOne_busy {s : State} (law : AssemblyLaw s) {p : SlotNo} {plate : Plate}
    (hp : s.asm.plates[p] = some plate) (ha : plate.state = .assembling) (hcur : s.HoldsTileOf p) :
    StepOne s ((s.dismissStarted p).discardCurrent p) p plate := by
  have hcur' := hcur
  obtain ⟨t, tile, hc, ht, hslot⟩ := hcur'
  have hmem : t ∈ plate.tiles := (mem_tiles_iff law hp t).2 ⟨tile, ht, hslot⟩
  have hstart := dismissStarted_plates hp
  have hpl : (s.dismissStarted p).asm.plates[tile.slot] = some { plate with dismissReserved := true } :=
    (hstart tile.slot).trans (if_pos hslot)
  have hv : (s.dismissStarted p).discardCurrent p = (s.dismissStarted p).closeCurrent t tile .discarded none := by
    simp [State.discardCurrent, dismissStarted_current law hp hc ht hslot, hslot]
  rw [hv, closeCurrent_discarded hpl ha]
  refine ⟨hstart, fun x => ?_, rfl, rfl, rfl, fun line => ?_, fun _ => ⟨rfl, rfl, rfl⟩, fun h => absurd hcur h,
    fun x id hx _ hid => ?_, fun h => ?_⟩
  · refine (setTile_tiles (s.dismissStarted p) t x _).trans ?_
    by_cases hx : x = t
    · subst hx
      rw [if_pos rfl, if_pos hmem, ht, Option.map_some, tileAfter_current hc]
      rfl
    · have hne : s.seq.current ≠ some x := fun h => hx (by rw [hc] at h; cases h; rfl)
      rw [if_neg hx, tileAfter_other hne, Option.map_id, id, ite_self]
      rfl
  · exact snapshot_fencedOn s.merge.lastCarrier t s.pwq line
  · have hxt : x = t := by rw [hc] at hx; cases hx; rfl
    show s.pwq.fencedOn s.merge.lastCarrier t = _
    rw [hid, hxt]
    rfl
  · show s.pwq.fencedOn s.merge.lastCarrier t = _
    rw [h.resolve_left (not_not_intro hcur)]
    rfl

theorem stepOne_idle {s : State} {p : SlotNo} {plate : Plate} (law : AssemblyLaw s)
    (hp : s.asm.plates[p] = some plate) (hcur : ¬s.HoldsTileOf p) :
    StepOne s ((s.dismissStarted p).discardCurrent p) p plate := by
  have hv : (s.dismissStarted p).discardCurrent p = s.dismissStarted p := by
    unfold State.discardCurrent
    split
    · rfl
    · next t tile pl h =>
      obtain ⟨hc, ht, -⟩ := currentTile_some.1 h
      exact if_neg fun hslot => hcur ⟨t, tile, hc, ht, hslot⟩
  rw [hv]
  refine ⟨dismissStarted_plates hp, fun x => ?_, rfl, rfl, rfl, fun _ => rfl, fun h => absurd h hcur,
    fun _ => ⟨rfl, rfl, rfl⟩, fun _ _ _ h => absurd h hcur, fun _ => rfl⟩
  split
  · next hx =>
    obtain ⟨tile, ht, hslot⟩ := (mem_tiles_iff law hp x).1 hx
    have hne : s.seq.current ≠ some x := fun hc => hcur ⟨x, tile, hc, ht, hslot⟩
    rw [tileAfter_other hne, Option.map_id]
    rfl
  · rfl

theorem stepOne {s : State} (law : AssemblyLaw s) {p : SlotNo} {plate : Plate} (hp : s.asm.plates[p] = some plate)
    (ha : plate.state = .assembling) : StepOne s ((s.dismissStarted p).discardCurrent p) p plate := by
  by_cases hcur : s.HoldsTileOf p
  · exact stepOne_busy law hp ha hcur
  · exact stepOne_idle law hp hcur

theorem dismissReady_waiting {s : State} {k : Take} {p : SlotNo} {plate : Plate} (hk : s.plan.take = some k)
    (hs : k.step = .waitingReservation) (hf : p.val = (wordAt k.body 0).toNat) (hp : s.asm.plates[p] = some plate)
    (hroom : s.report.queue.length + s.report.reserved < 16) : s.dismissReady = some (k, p, plate) := by
  have hused : s.report.used + 1 ≤ Config.reportPlaces := hroom
  simp [State.dismissReady, hk, slotField_of_val hf, hp, hs, hused]

/-- The course of a DISMISS of an ASSEMBLING plate: step 1 of R46, the others, and the end of the take. -/
theorem dismissReservation_assembling {s : State} {k : Take} {p : SlotNo} {plate : Plate}
    (h : s.dismissReady = some (k, p, plate)) (ha : plate.state = .assembling) :
    dismissReservation s =
      ((((s.dismissStarted p).discardCurrent p).discarded p plate).freeIfDone p).result k .accepted 0 := by
  simp only [dismissReservation, h, State.acceptDismiss, ha]
  rfl

/-! ### The whole of R46 -/

section
variable {s v : State} {p : SlotNo} {plate : Plate}

theorem discarded_stepOne_plates (h : StepOne s v p plate) (q : SlotNo) :
    (v.discarded p plate).asm.plates[q] =
      if q = p then some (plate.dismissing { plate with dismissReserved := true }) else s.asm.plates[q] := by
  rw [discarded_plates, h.plates]
  split <;> rfl

theorem discarded_stepOne_tiles (h : StepOne s v p plate) (hl : plate.tiles.Nodup) (x : TileNo) :
    (v.discarded p plate).asm.tiles[x] =
      if x ∈ plate.tiles then s.asm.tiles[x].map fun tile => (s.tileAfter x tile).dropped else s.asm.tiles[x] := by
  rw [discarded_tiles p plate hl, h.tiles]
  split
  · rw [Option.map_map]
    rfl
  · rfl

theorem tileAfter_reservation (s : State) (x : TileNo) (tile : Tile) :
    (s.tileAfter x tile).reservation = tile.reservation := by
  unfold State.tileAfter Tile.discardedFrom
  split <;> (try split) <;> rfl

/-- What the reads that wait on the plate's holds meet when they are sent on (R81). -/
theorem discarded_stepOne_sameWay (h : StepOne s v p plate) (hl : plate.tiles.Nodup)
    (hplan : v.plan.station = s.plan.station) :
    SameWay (v.discarded p plate)
      ((s.hold.queue.filter fun r => decide (some r.hold ∈ plate.bandHolds)).foldl
        (fun u r => u.forwardStale .dismiss r) { s with report := { s.report with
          reserved := s.report.reserved + 1 - (plate.tiles.map s.placesOf).sum } }) := by
  have hplaces : plate.tiles.map v.placesOf = plate.tiles.map s.placesOf := by
    refine List.map_congr_left fun x hx => ?_
    rw [State.placesOf, h.tiles, if_pos hx, Option.map_map]
    simp only [State.placesOf, Function.comp_def, tileAfter_reservation]
  rw [← h.hold]
  refine discarded_sameWay p plate hl ⟨h.reads, ?_, hplan, h.snapshot⟩
  simp only [hplaces, h.report]

theorem dropped_isClosing (tile : Tile) : tile.dropped.isClosing = tile.isClosing := by
  unfold Tile.dropped Tile.discard
  split
  · next o heat h => simp [Tile.isClosing, h]
  · rfl

/-- After the steps of R46 a tile of the plate is CLOSING when one was, or when the sequencer's tile has a last
carrier. -/
theorem discarded_closing_iff (law : AssemblyLaw s) (hp : s.asm.plates[p] = some plate) (h : StepOne s v p plate) :
    (∃ x ∈ plate.tiles, (v.discarded p plate).tileIs Tile.isClosing x = true) ↔
      (∃ x ∈ plate.tiles, s.tileIs Tile.isClosing x = true)
        ∨ (s.HoldsTileOf p ∧ s.merge.lastCarrier.isSome = true) := by
  have htile : ∀ x ∈ plate.tiles, ∀ tile, s.asm.tiles[x] = some tile →
      (v.discarded p plate).tileIs Tile.isClosing x = (s.tileAfter x tile).isClosing := by
    intro x hx tile ht
    rw [State.tileIs, discarded_stepOne_tiles h (tiles_nodup law hp), if_pos hx, ht]
    simp [dropped_isClosing]
  have hafter : ∀ x tile, s.seq.current = some x →
      (s.tileAfter x tile).isClosing = s.merge.lastCarrier.isSome := by
    intro x tile hc
    rw [tileAfter_current hc, Tile.discardedFrom]
    cases s.merge.lastCarrier <;> rfl
  constructor
  · rintro ⟨x, hx, hclosing⟩
    obtain ⟨tile, ht, hslot⟩ := (mem_tiles_iff law hp x).1 hx
    rw [htile x hx tile ht] at hclosing
    by_cases hc : s.seq.current = some x
    · exact .inr ⟨⟨x, tile, hc, ht, hslot⟩, (hafter x tile hc).symm.trans hclosing⟩
    · rw [tileAfter_other hc] at hclosing
      exact .inl ⟨x, hx, by simpa [State.tileIs, ht] using hclosing⟩
  · rintro (⟨x, hx, hclosing⟩ | ⟨⟨x, tile, hc, ht, hslot⟩, hcarrier⟩)
    · obtain ⟨tile, ht, -⟩ := (mem_tiles_iff law hp x).1 hx
      have hne : s.seq.current ≠ some x := fun hc => by
        have hactive := (law.active x).2 hc
        simp only [State.tileIs, ht, Option.any_some, Tile.active, Tile.isClosing] at hactive hclosing
        cases hs : tile.state <;> simp [hs] at hactive hclosing
      refine ⟨x, hx, ?_⟩
      rw [htile x hx tile ht, tileAfter_other hne]
      simpa [State.tileIs, ht] using hclosing
    · have hx := (mem_tiles_iff law hp x).2 ⟨tile, ht, hslot⟩
      exact ⟨x, hx, (htile x hx tile ht).trans ((hafter x tile hc).trans hcarrier)⟩

end

/-- The tiles of a plate that waits for its CLOSING tiles, as R46 leaves them. -/
theorem dropped_tileAfter (s : State) (x : TileNo) (tile : Tile) :
    (s.tileAfter x tile).dropped =
      if s.seq.current = some x then
        if s.merge.lastCarrier.isSome = true then { tile with state := .closing .discarded none, reservation := 0 }
        else { tile with state := .pending, expIndex := 0, stats := [], skipped := false, reservation := 0 }
      else { tile.discard with reservation := 0 } := by
  unfold State.tileAfter Tile.discardedFrom
  split <;> (try split) <;> rfl

theorem dropRef_eq (ts : List TileNo) (e : Entry) :
    e.dropRef ts = if ∃ t, e.tileRef = some t ∧ t ∈ ts then { e with tileRef := none } else e := by
  simp [Entry.dropRef, Option.any_eq_true]

/-- With a tile CLOSING the plate stays DISMISSING; with none it is FREE (R47). -/
theorem freeIfDone_discarded {s v : State} {p : SlotNo} {plate : Plate} (law : AssemblyLaw s)
    (hp : s.asm.plates[p] = some plate) (h : StepOne s v p plate) :
    let y := v.discarded p plate
    let closing := (∃ x ∈ plate.tiles, s.tileIs Tile.isClosing x = true)
      ∨ (s.HoldsTileOf p ∧ s.merge.lastCarrier.isSome = true)
    (closing → y.freeIfDone p = y)
      ∧ (¬closing → y.freeIfDone p = y.freePlate p plate.tilesDone plate.tilesFailed) := by
  intro y closing
  have hyp : y.asm.plates[p] = some (plate.dismissing { plate with dismissReserved := true }) :=
    (discarded_stepOne_plates h p).trans (if_pos rfl)
  have hiff : (∃ x ∈ plate.tiles, y.tileIs Tile.isClosing x = true) ↔ closing := discarded_closing_iff law hp h
  have hnone : y.noneClosing (plate.dismissing { plate with dismissReserved := true }) = true ↔ ¬closing := by
    rw [noneClosing_iff, ← hiff]
    simp [Plate.dismissing]
  rw [freeIfDone_dismissing hyp rfl]
  exact ⟨fun hc => if_neg fun hn => hnone.1 hn hc, fun hc => if_pos (hnone.2 hc)⟩

theorem unfenced_of_noneClosing {s : State} {p : SlotNo} {q : Prop}
    (h : ¬(q ∨ (s.HoldsTileOf p ∧ s.merge.lastCarrier.isSome = true))) :
    ¬s.HoldsTileOf p ∨ s.merge.lastCarrier = none := by
  refine or_iff_not_imp_left.2 fun hcur => ?_
  have hcarrier : ¬s.merge.lastCarrier.isSome = true := fun hsome => h (.inr ⟨not_not.1 hcur, hsome⟩)
  simpa using hcarrier

/-- A plate with no tile CLOSING is FREE, its slot and tile entries with it (R31, R47). -/
theorem freePlate_discarded {s v sent : State} {p : SlotNo} {plate : Plate} (h : StepOne s v p plate)
    (hl : plate.tiles.Nodup) (hway : SameWay (v.discarded p plate) sent)
    (hfence : ¬s.HoldsTileOf p ∨ s.merge.lastCarrier = none) :
    let z := (v.discarded p plate).freePlate p plate.tilesDone plate.tilesFailed
    (∀ q : SlotNo, z.asm.plates[q] = if q = p then none else s.asm.plates[q])
      ∧ (∀ t : TileNo, z.asm.tiles[t] = if t ∈ plate.tiles then none else s.asm.tiles[t])
      ∧ z.report = { sent.report with
        queue := sent.report.queue ++ [.plateDismissed p plate.tag plate.tilesDone plate.tilesFailed]
        reserved := sent.report.reserved - 1 }
      ∧ z.pwq = { s.pwq with entries := s.pwq.entries.map fun e =>
        if ∃ t, e.tileRef = some t ∧ t ∈ plate.tiles then { e with tileRef := none } else e } := by
  have hy := discarded_stepOne_plates h
  obtain ⟨hplates, htiles, hreport, hpwq⟩ :=
    freePlate_of_plate (pl := plate.dismissing { plate with dismissReserved := true }) plate.tilesDone plate.tilesFailed
      hl ((hy p).trans (if_pos rfl))
  refine ⟨fun q => (hplates q).trans ?_, fun t => (htiles t).trans ?_, ?_, ?_⟩
  · rw [hy]
    split <;> rfl
  · rw [discarded_stepOne_tiles h hl]
    exact ite_congr rfl (fun _ => rfl) fun hno => if_neg hno
  · rw [hreport, hway.report]
    rfl
  · rw [hpwq, discarded_pwq, h.unfenced hfence]
    exact congrArg (fun l : List Entry => { s.pwq with entries := l })
      (List.map_congr_left fun e _ => dropRef_eq plate.tiles e)

/-- Settles O38: `StepOne` says step 1 of R46, the lemmas of `discarded` the others, and `freeIfDone_discarded` whether
the plate is FREE at once. -/
theorem dismissDiscardsAnAssemblingPlate : Obligations.DismissDiscardsAnAssemblingPlate := by
  unfold Obligations.DismissDiscardsAnAssemblingPlate
  intro s k p plate law _ hk hs hf hp ha hroom current closing held places sent
  have hl := tiles_nodup law hp
  let v := (s.dismissStarted p).discardCurrent p
  let y := v.discarded p plate
  have hone : StepOne s v p plate := stepOne law hp ha
  have heff := dismissReservation_assembling (dismissReady_waiting hk hs hf hp hroom) ha
  have hway : SameWay y sent := discarded_stepOne_sameWay hone hl (by simp [v, State.dismissStarted])
  have hplates : ∀ q : SlotNo, y.asm.plates[q] = _ := discarded_stepOne_plates hone
  have htiles : ∀ x : TileNo, y.asm.tiles[x] = _ := discarded_stepOne_tiles hone hl
  obtain ⟨hpool, hqueue⟩ := discarded_hold p plate v
  have hpwq : y.pwq = v.pwq := discarded_pwq p plate v
  obtain ⟨hstays, hfrees⟩ := freeIfDone_discarded law hp hone
  have hfreed : ¬closing → _ := fun hno => freePlate_discarded hone hl hway (unfenced_of_noneClosing hno)
  generalize hz : y.freeIfDone p = z at heff hstays hfrees
  have hframe : z.port = s.port ∧ z.merge = v.merge ∧ z.seq = v.seq ∧ z.stage = v.stage ∧ z.lamp = s.lamp
      ∧ z.plan = s.plan ∧ z.down = s.down ∧ z.clock = s.clock ∧ z.reads = y.reads ∧ z.hold = y.hold := by
    simp [← hz, y, v, discarded_frame, State.dismissStarted]
  obtain ⟨hport, hmerge, hseq, hstage, hlamp, hplan, hdown, hclock, hreads, hhold⟩ := hframe
  rw [result_eq _ _ ((congrArg Plan.take hplan).trans hk)] at heff
  refine ⟨z.withResult k (resultWord k.kindField .accepted 0), exec_of_effect heff, ?_, ?_, fun hcur => ?_,
    fun hcur => ?_, fun h => ?_, ?_, hreads.trans hway.reads, hlamp, hport, hclock, fun q hq => ?_, fun t ht => ?_,
    fun hno => ?_, fun hyes => ?_⟩
  · simp only [State.withResult, hplan]
  · simp only [State.withResult, hdown]
  · obtain ⟨hseq', hmerge', hstage'⟩ := hone.left hcur
    exact ⟨hseq.trans hseq', hmerge.trans hmerge', hstage.trans hstage'⟩
  · obtain ⟨hseq', hmerge', hstage'⟩ := hone.kept hcur
    exact ⟨hseq.trans hseq', hmerge.trans hmerge', hstage.trans hstage'⟩
  · show z.hold.pool[h] = _
    rw [hhold, ← hone.hold]
    exact hpool h
  · show z.hold.queue = _
    rw [hhold, ← hone.hold]
    exact hqueue
  · show z.asm.plates[q] = _
    by_cases hc : closing
    · rw [hstays hc, hplates, if_neg hq]
    · rw [hfrees hc, (hfreed hc).1, if_neg hq]
  · show z.asm.tiles[t] = _
    by_cases hc : closing
    · rw [hstays hc, htiles, if_neg ht]
    · rw [hfrees hc, (hfreed hc).2.1, if_neg ht]
  · obtain rfl := hfrees hno
    obtain ⟨hfplates, hftiles, hfreport, hfpwq⟩ := hfreed hno
    exact ⟨(hfplates p).trans (if_pos rfl), fun t ht => (hftiles t).trans (if_pos ht), hfreport, hfpwq⟩
  · obtain rfl := hstays hyes
    refine ⟨(hplates p).trans (if_pos rfl), hway.report, fun t ht tile htile => ?_,
      fun t id hc hcur hid => hpwq.trans (hone.fenced t id hc hcur hid), fun h => hpwq.trans (hone.unfenced h)⟩
    refine (htiles t).trans ?_
    rw [if_pos ht, htile, Option.map_some, dropped_tileAfter]
    refine congrArg some (if_congr Iff.rfl rfl ?_)
    rcases tile with ⟨slot, index, row, col, state, _⟩
    cases state <;> rfl

end Sys2Proof.Machine
end

section
/-! PROOFS. Plan records of a plate (02): acceptance (O34), RETAKE (O36), DISMISS of a COMPLETE plate (O37), and the drain
that retires (O28). -/

namespace Sys2Proof.Machine

/-! ### Folds over the tables -/

/-- Writing one entry of a table for each element of a list, as a fold of the table alone. -/
theorem foldSetTile_eq {α : Type} (i : α → TileNo) (f : α → Option Tile) (l : List α) (s : State) :
    l.foldl (fun s x => s.setTile (i x) (f x)) s =
      { s with asm := { s.asm with tiles := l.foldl (fun v x => v.set (i x) (f x)) s.asm.tiles } } := by
  induction l generalizing s with
  | nil => rfl
  | cons x l ih => exact ih _

theorem foldSetHold_eq {α : Type} (i : α → HoldNo) (f : α → Option Hold) (l : List α) (s : State) :
    l.foldl (fun s x => s.setHold (i x) (f x)) s =
      { s with hold := { s.hold with pool := l.foldl (fun v x => v.set (i x) (f x)) s.hold.pool } } := by
  induction l generalizing s with
  | nil => rfl
  | cons x l ih => exact ih _

theorem getElem_set_fin {β : Type} {n : Nat} (v : Vector β n) (i j : Fin n) (y : β) :
    (v.set i y)[j] = if j = i then y else v[j] := by
  simp [Vector.getElem_set, Fin.ext_iff, eq_comm]

/-- One value written to all entries of a list. -/
theorem foldSet_const {β : Type} {n : Nat} (y : β) (l : List (Fin n)) (v : Vector β n) (j : Fin n) :
    (l.foldl (fun v i => v.set i y) v)[j] = if j ∈ l then y else v[j] := by
  induction l generalizing v with
  | nil => simp
  | cons i l ih =>
    rw [List.foldl_cons, ih, getElem_set_fin]
    by_cases hj : j = i <;> simp [hj]

/-- The entries of a list without repetition, each written by its place in the list. -/
theorem foldSet_zipIdx {β : Type} {n : Nat} (f : Nat → β) (l : List (Fin n)) (hl : l.Nodup) (m : Nat) (v : Vector β n) :
    let w := (l.zipIdx m).foldl (fun v x => v.set x.1 (f x.2)) v
    (∀ (i : Nat) (j : Fin n), l[i]? = some j → w[j] = f (m + i)) ∧ ∀ j : Fin n, j ∉ l → w[j] = v[j] := by
  induction l generalizing m v with
  | nil => simp
  | cons x l ih =>
    obtain ⟨hx, hl⟩ := List.nodup_cons.1 hl
    obtain ⟨hin, hout⟩ := ih hl (m + 1) (v.set x (f m))
    refine ⟨fun i j hi => ?_, fun j hj => ?_⟩
    · cases i with
      | zero =>
        cases hi
        exact (hout x hx).trans ((getElem_set_fin v x x _).trans (if_pos rfl))
      | succ i => exact (hin i j hi).trans (congrArg f (by omega))
    · obtain ⟨hne, hjl⟩ := not_or.1 (List.mem_cons.not.1 hj)
      exact (hout j hjl).trans ((getElem_set_fin v x j _).trans (if_neg hne))

/-! ### A plate becomes FREE (R31, R45, R47) -/

/-- The whole effect of a plate's end: `freePlate_of_plate` for a tile list of any kind, and with the whole state. -/
theorem freePlate_eq {s : State} {p : SlotNo} {plate : Plate} (done failed : Nat) (hp : s.asm.plates[p] = some plate) :
    ∃ tiles, s.freePlate p done failed = { s with
        asm := { plates := s.asm.plates.set p none, tiles := tiles }
        pwq := { s.pwq with entries := s.pwq.entries.map (Entry.dropRef plate.tiles) }
        report := { s.report with
          queue := s.report.queue ++ [.plateDismissed p plate.tag done failed], reserved := s.report.reserved - 1 } }
      ∧ ∀ x : TileNo, tiles[x] = if x ∈ plate.tiles then none else s.asm.tiles[x] := by
  refine ⟨_, ?_, foldSet_const none plate.tiles s.asm.tiles⟩
  simp only [State.freePlate, hp, foldSetTile_eq]
  rfl

/-! ### DISMISS (9.8) -/

/-- R45: a waiting DISMISS of a COMPLETE plate marks it, frees it and ends the take. -/
theorem dismissReservation_complete {s : State} {k : Take} {p : SlotNo} {plate : Plate}
    (h : s.dismissReady = some (k, p, plate)) (hc : plate.state = .complete) :
    dismissReservation s =
      ((s.dismissStarted p).freePlate p plate.tilesDone plate.tilesFailed).result k .accepted 0 := by
  simp only [dismissReservation, h, State.acceptDismiss, hc]
  rfl

/-- A fetched DISMISS record after the check for a CONFIGURED station (R182). -/
theorem dismissRecord_configured {s : State} {k : Take} (hk : s.fetched .dismiss = some k)
    (hst : s.plan.station.isSome = true) :
    (4 ≤ (wordAt k.body 0).toNat → dismissRecord s = s.result k .badField 0)
      ∧ ∀ p : SlotNo, p.val = (wordAt k.body 0).toNat →
        (s.namedPlate p (wordAt k.body 1) = none → dismissRecord s = s.result k .wrongPlate 0)
        ∧ ((s.namedPlate p (wordAt k.body 1)).isSome = true →
          dismissRecord s = s.setTake { k with step := .waitingReservation }) := by
  refine ⟨fun hbig => ?_, fun p hp => ⟨fun hnone => ?_, fun hsome => ?_⟩⟩
  · simp [dismissRecord, hk, State.configured, hst, slotField_of_big hbig]
  · simp [dismissRecord, hk, State.configured, hst, slotField_of_val hp, hnone]
  · obtain ⟨plate, hplate⟩ := Option.isSome_iff_exists.1 hsome
    simp [dismissRecord, hk, State.configured, hst, slotField_of_val hp, hplate]

/-- Settles O37: the record by `dismissRecord_configured`, the waiting DISMISS by `freePlate_eq`. -/
theorem dismissWaitsAndFreesACompletePlate : Obligations.DismissWaitsAndFreesACompletePlate := by
  unfold Obligations.DismissWaitsAndFreesACompletePlate
  refine ⟨?_, fun s k p plate hk hs hf hp hc hroom => ?_⟩
  · intro s k hk ends
    obtain ⟨htake, -, hkind⟩ := fetched_some hk
    have hend : ∀ code d, dismissRecord s = s.result k code d → exec .dismiss s = ends code d := fun code d h => by
      refine exec_of_effect (h.trans ?_)
      rw [result_eq code d htake, kindField_of_kind hkind]
      rfl
    refine ⟨fun hno => hend _ _ ?_, fun hst => ?_⟩
    · simp [dismissRecord, hk, State.configured, hno]
    · obtain ⟨hbad, hslot⟩ := dismissRecord_configured hk hst
      refine ⟨fun h => hend _ _ (hbad h), fun p hp => ?_⟩
      obtain ⟨hwrong, hwaits⟩ := hslot p hp
      exact ⟨fun h => hend _ _ (hwrong h), fun h => exec_of_effect (hwaits h)⟩
  · have hmarked := (dismissStarted_plates hp p).trans (if_pos rfl)
    obtain ⟨tiles, hfree, htiles⟩ := freePlate_eq plate.tilesDone plate.tilesFailed hmarked
    refine ⟨tiles, exec_of_effect ((dismissReservation_complete (dismissReady_waiting hk hs hf hp hroom) hc).trans ?_),
      fun t ht => (htiles t).trans (if_pos ht), fun t ht => (htiles t).trans (if_neg ht)⟩
    rw [result_eq .accepted 0 (by rw [hfree]; exact hk), hfree]
    have hpwq : s.pwq.entries.map (Entry.dropRef plate.tiles) = _ := List.map_congr_left fun e _ => dropRef_eq plate.tiles e
    simp only [hpwq, State.dismissStarted, State.modPlate, State.setPlate, State.reserve, State.withResult,
      Vector.set_set, Nat.add_sub_cancel]

/-! ### Retirement (5.6) -/

/-- R23: the last-carrier reference after a retirement. -/
theorem dropCarrier_eq (s : State) (id : Nat) :
    s.dropCarrier id = { s with merge := { s.merge with
      lastCarrier := if s.merge.lastCarrier = some id then none else s.merge.lastCarrier } } := by
  unfold State.dropCarrier
  split <;> simp [*]

/-- R190, R191: the drained produce index and IRQ after a retirement. -/
theorem headerDrained_eq (s : State) (e : Entry) :
    s.headerDrained e = { s with report := match e.header with
      | none => s.report
      | some p => { s.report with drained := p, irq := decide (p ≠ s.report.consume) } } := by
  unfold State.headerDrained
  cases e.header with
  | none => rfl
  | some p => simp [State.setIrq, bne, BEq.beq]

/-- R114, R117, R190: what the retired entry leaves behind, but for its fence. -/
theorem leaves_eq_withoutHead (s : State) (e : Entry) (rest : List Entry) :
    ((({ s with pwq := { s.pwq with entries := rest } } : State).leaveSnapshots e.id).dropCarrier e.id).headerDrained e
      = s.withoutHead e rest := by
  have hempty : ∀ ids : List Nat, ids.isEmpty = (ids == []) := fun ids => by cases ids <;> rfl
  have hreads : (s.reads.waiting.map (WaitingRead.without e.id)).filter (!·.snapshot.isEmpty) =
      (s.reads.waiting.filter fun w => w.snapshot.filter (· != e.id) != []).map
        fun w => { w with snapshot := w.snapshot.filter (· != e.id) } := by
    simp only [List.filter_map, hempty]
    rfl
  have hready : ((s.reads.waiting.map (WaitingRead.without e.id)).filter (·.snapshot.isEmpty)).map (·.read) =
      (s.reads.waiting.filter fun w => w.snapshot.filter (· != e.id) == []).map (·.read) := by
    simp only [List.filter_map, hempty, List.map_map]
    rfl
  have hfetch : s.down.fetch.without e.id = match s.down.fetch with
      | .waiting line ids =>
        if ids.filter (· != e.id) = [] then .ready line else .waiting line (ids.filter (· != e.id))
      | f => f := by
    cases s.down.fetch <;> simp [Fetch.without]
  simp only [headerDrained_eq, dropCarrier_eq, State.leaveSnapshots, hreads, hready, hfetch]
  rfl

theorem drainResponds_head {s : State} {e : Entry} {rest : List Entry} (st : DownStatus)
    (hq : s.pwq.entries = e :: rest) (hd : e.state = .draining) :
    s.drainResponds st = State.retired st e { s with pwq := { s.pwq with entries := rest } } := by
  simp [State.drainResponds, hq, hd]

/-- A charge takes no notice of the queue. -/
theorem charge_withPwq (s : State) (e : Entry) (q : Pwq) :
    ({ s with pwq := q } : State).charge e = { s.charge e with pwq := q } := by
  unfold State.charge
  split
  · rfl
  · split
    · rfl
    · unfold State.offer
      cases s.plan.station with
      | none => rfl
      | some st => simp only []; split <;> rfl

/-- R118: a FAULT response charges the fault, and goes on as an OK response does. -/
theorem drainResponds_fault {s : State} {e : Entry} {rest : List Entry} (hq : s.pwq.entries = e :: rest)
    (hd : e.state = .draining) : s.drainResponds .fault = (s.charge e).drainResponds .ok := by
  have hq' : (s.charge e).pwq.entries = e :: rest := by simp [hq]
  rw [drainResponds_head .fault hq hd, drainResponds_head .ok hq' hd]
  simp [State.retired, charge_withPwq]

/-- Settles O28: `leaves_eq_withoutHead` for an OK response, `drainResponds_fault` for a FAULT one. -/
theorem drainRetires : Obligations.DrainRetires := by
  unfold Obligations.DrainRetires
  refine ⟨fun s e rest hq hd => exec_of_effect ?_, fun s e rest hq hd => ⟨s.charge e, fun t ht => ?_, fun ht hr => ?_,
    fun ht hr => ?_, _, exec_of_effect (drainResponds_fault hq hd), exec_of_effect rfl⟩⟩
  · have hok : State.drainResponds .ok s = State.deliverOf e _ := drainResponds_head .ok hq hd
    refine hok.trans ((congrArg (State.deliverOf e) (leaves_eq_withoutHead s e rest)).trans ?_)
    unfold State.deliverOf
    cases e.fence <;> rfl
  · simp [State.charge, ht, State.modTile, State.setTile]
  · simp [State.charge, ht, hr]
  · simp [State.charge, ht, hr]

/-! ### Acceptance of a plate (2.4) -/

theorem freeTiles_nodup (s : State) : s.freeTiles.Nodup := (List.nodup_finRange 64).filter _

theorem freeHolds_nodup (s : State) : s.freeHolds.Nodup := (List.nodup_finRange 16).filter _

/-- The plate that a record brings into a slot (R28). -/
def State.newPlate (s : State) (ws : List Word) : Plate :=
  plateOf ws ((s.freeHolds.take (geometryOf ws).rows).map some) (s.freeTiles.take (geometryOf ws).tiles)

theorem bandHold_newPlate (s : State) (ws : List Word) (b : Nat) :
    (s.newPlate ws).bandHold b = (s.freeHolds.take (geometryOf ws).rows)[b]? := by
  simp only [Plate.bandHold, State.newPlate, plateOf, List.getElem?_map]
  cases (s.freeHolds.take (geometryOf ws).rows)[b]? <;> rfl

/-- The whole effect of acceptance (R28, R77). -/
theorem acceptPlate_eq (s : State) (p : SlotNo) (ws : List Word) : ∃ tiles pool,
    s.acceptPlate p ws = { s with
        asm := { plates := s.asm.plates.set p (some (s.newPlate ws)), tiles := tiles }
        hold := { s.hold with pool := pool } }
      ∧ (∀ (i : Nat) (t : TileNo), (s.newPlate ws).tiles[i]? = some t →
        tiles[t] = some (newTile p (geometryOf ws).cols i))
      ∧ (∀ t : TileNo, t ∉ (s.newPlate ws).tiles → tiles[t] = s.asm.tiles[t])
      ∧ (∀ (b : Nat) (h : HoldNo), (s.newPlate ws).bandHold b = some h →
        pool[h] = some (holdFor p (s.newPlate ws) b))
      ∧ ∀ h : HoldNo, (∀ b, (s.newPlate ws).bandHold b ≠ some h) → pool[h] = s.hold.pool[h] := by
  obtain ⟨hin, hout⟩ := foldSet_zipIdx (fun i => some (newTile p (geometryOf ws).cols i))
    (s.freeTiles.take (geometryOf ws).tiles) ((freeTiles_nodup s).sublist (List.take_sublist _ _)) 0 s.asm.tiles
  obtain ⟨hheld, hrest⟩ := foldSet_zipIdx (fun b => some (holdFor p (s.newPlate ws) b))
    (s.freeHolds.take (geometryOf ws).rows) ((freeHolds_nodup s).sublist (List.take_sublist _ _)) 0 s.hold.pool
  refine ⟨_, _, ?_, fun i t hi => (hin i t hi).trans (by rw [Nat.zero_add]), hout, fun b h hb => ?_,
    fun h hh => hrest h fun hmem => ?_⟩
  · simp only [State.acceptPlate, foldSetTile_eq, foldSetHold_eq]
    rfl
  · rw [bandHold_newPlate] at hb
    exact (hheld b h hb).trans (by rw [Nat.zero_add])
  · obtain ⟨b, hb⟩ := List.mem_iff_getElem?.1 hmem
    exact hh b ((bandHold_newPlate s ws b).trans hb)

/-- A PLATE record that passes every check is accepted into the lowest FREE slot (R28, R175, R179, R180). -/
theorem plateRecord_accepted {s : State} {k : Take} {st : Station} {p : SlotNo} {more : List SlotNo}
    (hk : s.fetched .plate = some k) (hst : s.plan.station = some st) (hcheck : firstFailing (plateChecks k.body) = none)
    (hapart : s.plateApart st (recordPlate k.body) = true) (hslot : s.freeSlots = p :: more)
    (htiles : (geometryOf k.body).tiles ≤ s.freeTiles.length) (hholds : (geometryOf k.body).rows ≤ s.freeHolds.length) :
    plateRecord s = (s.acceptPlate p k.body).result k .accepted p.val := by
  have hroom : s.hasRoom (geometryOf k.body) = true := by simp [State.hasRoom, hslot, htiles, hholds]
  simp [plateRecord, hk, hst, hcheck, hapart, hroom, hslot]

/-- Settles O34: `plateRecord_accepted` and the effect that `acceptPlate_eq` gives. -/
theorem plateRecordIsAccepted : Obligations.PlateRecordIsAccepted := by
  unfold Obligations.PlateRecordIsAccepted
  intro s k st p more hk hst hcheck hapart hslot g plate htiles hholds
  obtain ⟨tiles, pool, heq, hin, hout, hheld, hrest⟩ := acceptPlate_eq s p k.body
  obtain ⟨htake, -, hkind⟩ := fetched_some hk
  refine ⟨{ plates := s.asm.plates.set p (some plate), tiles := tiles }, { s.hold with pool := pool },
    exec_of_effect ((plateRecord_accepted hk hst hcheck hapart hslot htiles hholds).trans ?_), rfl, hin, hout, hheld,
    hrest, rfl⟩
  rw [result_eq .accepted p.val (by simpa using htake), kindField_of_kind hkind, heq]
  rfl

/-! ### RETAKE (2.9) -/

theorem tileOf_some {s : State} {plate : Plate} {i : Nat} {t : TileNo} {tile : Tile} (hi : plate.tiles[i]? = some t)
    (ht : s.asm.tiles[t] = some tile) : s.tileOf plate i = some (t, tile) := by
  have hb : (s.asm.tiles[t].bind fun tile => some (t, tile)) = some (t, tile) := by rw [ht]; rfl
  simpa [State.tileOf, hi] using hb

/-- A RETAKE record that passes the checks of R181 is accepted. -/
theorem retakeRecord_accepted {s : State} {k : Take} {p : SlotNo} {plate : Plate} {t : TileNo} {tile : Tile}
    (hk : s.fetched .retake = some k) (hst : s.plan.station.isSome = true) (hp : p.val = (wordAt k.body 0).toNat)
    (hplate : s.namedPlate p (wordAt k.body 1) = some plate) (hi : plate.tiles[(wordAt k.body 2).toNat]? = some t)
    (ht : s.asm.tiles[t] = some tile) (hfinal : tile.final = true)
    (hhold : plate.bandHold tile.row ≠ none ∨ s.freeHolds ≠ []) :
    retakeRecord s = (s.acceptRetake p t tile).result k .accepted 0 := by
  have hrow : s.holdForRow plate tile.row = true := by
    simpa [State.holdForRow, Option.isSome_iff_ne_none] using hhold
  simp [retakeRecord, hk, State.configured, hst, slotField_of_val hp, hplate, tileOf_some hi ht, hfinal, hrow]

/-- The tile PENDING again and the plate ASSEMBLING with its count lowered (R42, R43). -/
def State.tileRetaken (p : SlotNo) (plate : Plate) (t : TileNo) (tile : Tile) (s : State) : State :=
  { s with asm := {
      plates := s.asm.plates.set p (some (plate.retaken (tile.state == .done)))
      tiles := s.asm.tiles.set t (some tile.retaken) } }

theorem acceptRetake_eq {s : State} {p : SlotNo} {plate : Plate} (t : TileNo) (tile : Tile)
    (hp : s.asm.plates[p] = some plate) :
    s.acceptRetake p t tile = (s.tileRetaken p plate t tile).closeBand p tile.row := by
  have hmod : (s.setTile t (some tile.retaken)).modPlate p (fun pl => pl.retaken (tile.state == .done)) =
      s.tileRetaken p plate t tile := by
    have hp' : (s.setTile t (some tile.retaken)).asm.plates[p] = some plate := hp
    simp only [State.modPlate, hp']
    rfl
  rw [State.acceptRetake, hmod]

theorem closeBand_held {s : State} {p : SlotNo} {plate : Plate} {row : Nat} {h : HoldNo}
    (hp : s.asm.plates[p] = some plate) (hh : plate.bandHold row = some h) : s.closeBand p row = s := by
  simp [State.closeBand, hp, hh]

theorem closeBand_open {s : State} {p : SlotNo} {plate : Plate} {row : Nat} {h : HoldNo} {more : List HoldNo}
    (hp : s.asm.plates[p] = some plate) (hh : plate.bandHold row = none) (hfree : s.freeHolds = h :: more) :
    s.closeBand p row = { s with
      asm := { s.asm with
        plates := s.asm.plates.set p (some { plate with bandHolds := plate.bandHolds.set row (some h) }) }
      hold := { s.hold with pool := s.hold.pool.set h (some (holdFor p plate row)) } } := by
  have hp' : (s.setHold h (some (holdFor p plate row))).asm.plates[p] = some plate := hp
  simp only [State.closeBand, hp, hh, hfree, State.modPlate, hp']
  rfl

/-- Settles O36: `retakeRecord_accepted`, with the band closed already or closed now. -/
theorem retakeRecordIsAccepted : Obligations.RetakeRecordIsAccepted := by
  unfold Obligations.RetakeRecordIsAccepted
  intro s k p plate t tile hk hst hp hplate hi ht hfinal x counted tiles
  obtain ⟨htake, -, hkind⟩ := fetched_some hk
  obtain ⟨hsp, -, -⟩ := namedPlate_some hplate
  have hcounted : plate.retaken (tile.state == .done) = counted := by simp [Plate.retaken, counted]
  have hself : (s.tileRetaken p plate t tile).asm.plates[p] = some counted := by
    simp [State.tileRetaken, hcounted]
  have hend : ∀ u, u.plan = s.plan → (s.tileRetaken p plate t tile).closeBand p tile.row = u →
      (s.acceptRetake p t tile).result k .accepted 0 = u.withResult k (resultWord 3 .accepted 0) := by
    intro u hu hclose
    rw [acceptRetake_eq t tile hsp, hclose, result_eq _ _ ((congrArg Plan.take hu).trans htake), kindField_of_kind hkind]
    rfl
  have haccept := retakeRecord_accepted hk hst hp hplate hi ht hfinal
  refine ⟨fun h hh => exec_of_effect ((haccept (.inl (by simp [hh]))).trans (hend _ rfl ?_)),
    fun h more hh hfree => exec_of_effect ((haccept (.inr (by simp [hfree]))).trans (hend _ rfl ?_))⟩
  · rw [closeBand_held hself hh, State.tileRetaken, hcounted]
    rfl
  · rw [closeBand_open hself hh hfree, State.tileRetaken, hcounted]
    simp only [Vector.set_set]
    rfl

end Sys2Proof.Machine
end

section
/-! PROOFS. Delivery of a fence (02): the end of a tile with its band and its plate, and a DISCARDED tile (O39). -/

namespace Sys2Proof.Machine

/-! ### The end of a band (R36, R80) -/

theorem forward_sameWay {a b : State} (h : SameWay a b) (r : PortRead) : SameWay (a.forward r) (b.forward r) := by
  obtain ⟨hreads, hreport, hstation, hsnapshot⟩ := h
  refine ⟨?_, by simpa using hreport, by simpa using hstation, by simpa using hsnapshot⟩
  simp only [State.forward, hsnapshot, hreads]
  split <;> rfl

theorem foldForward_sameWay (f : HeldRead → PortRead) (rs : List HeldRead) {a b : State} (h : SameWay a b) :
    SameWay (rs.foldl (fun s r => s.forward (f r)) a) (rs.foldl (fun s r => s.forward (f r)) b) := by
  induction rs generalizing a b with
  | nil => exact h
  | cons r rs ih => exact ih (forward_sameWay h (f r))

/-- A released hold is FREE and no read waits on it; the reads that did are sent on from any state they meet alike. -/
theorem releaseHold_eq (h : HoldNo) {s b : State} (way : SameWay s b) :
    (s.releaseHold h).hold =
        { pool := s.hold.pool.set h none, queue := s.hold.queue.filter (·.hold != h) }
      ∧ (s.releaseHold h).reads = ((s.hold.queue.filter (·.hold == h)).foldl (fun v r => v.forward (r.toRead false)) b).reads := by
  obtain ⟨hreads, hreport, hstation, hsnapshot⟩ := way
  have hfreed : SameWay { s.setHold h none with
      hold := { (s.setHold h none).hold with queue := s.hold.queue.filter (!·.hold == h) } } b :=
    ⟨hreads, hreport, hstation, hsnapshot⟩
  refine ⟨?_, (foldForward_sameWay (·.toRead false) (s.hold.queue.filter (·.hold == h)) hfreed).reads⟩
  rw [State.releaseHold, State.takeOut, foldl_keeps State.hold _ (fun s r => by simp)]
  rfl

/-- The band of a tile row is finished: the plate is ASSEMBLING and every tile of the row is final (R36). -/
def State.bandDone (s : State) (plate : Plate) (row : Nat) : Bool :=
  plate.state == .assembling && (plate.rowTiles row).all (s.tileIs Tile.final)

theorem bandDone_iff (s : State) (plate : Plate) (row : Nat) :
    s.bandDone plate row = true ↔
      plate.state = .assembling ∧ (plate.rowTiles row).all (s.tileIs Tile.final) = true := by
  simp [State.bandDone]

/-- The plate with a band's hold given up. -/
def Plate.openBand (row : Nat) (p : Plate) : Plate := { p with bandHolds := p.bandHolds.set row none }

theorem openBand_none {plate : Plate} {row : Nat} (h : plate.bandHold row = none) : plate.openBand row = plate := by
  have hset : plate.bandHolds.set row none = plate.bandHolds := by
    refine List.ext_getElem? fun i => ?_
    rw [List.getElem?_set]
    split
    · next hi =>
      subst hi
      rw [Plate.bandHold] at h
      cases hb : plate.bandHolds[row]? with
      | none => simpa using hb
      | some x =>
        obtain ⟨hlt, -⟩ := List.getElem?_eq_some_iff.1 hb
        simp only [hb, Option.join_some] at h
        simp [hlt, h]
    · rfl
  simp [Plate.openBand, hset]

section
variable {s : State} {p : SlotNo} {plate : Plate} {row : Nat}

theorem finishBand_goesOn (hp : s.asm.plates[p] = some plate)
    (h : s.bandDone plate row = false ∨ plate.bandHold row = none) : s.finishBand p row = s := by
  simp only [State.finishBand, hp]
  rcases h with h | h
  · exact if_neg fun hdone => by simp [(bandDone_iff s plate row).2 hdone] at h
  · simp [h]

theorem finishBand_done {h : HoldNo} (hp : s.asm.plates[p] = some plate) (hdone : s.bandDone plate row = true)
    (hh : plate.bandHold row = some h) : s.finishBand p row = (s.releaseHold h).modPlate p (Plate.openBand row) := by
  simp only [State.finishBand, hp, if_pos ((bandDone_iff s plate row).1 hdone), hh]
  rfl

theorem finishBand_asm (hp : s.asm.plates[p] = some plate) : (s.finishBand p row).asm = { s.asm with
    plates := s.asm.plates.set p (some (if s.bandDone plate row then plate.openBand row else plate)) } := by
  have hsame : ({ s.asm with plates := s.asm.plates.set p (some plate) } : Assembly) = s.asm := by
    rw [← hp]
    simp
  cases hdone : s.bandDone plate row
  case true =>
    cases hh : plate.bandHold row with
    | none => rw [finishBand_goesOn hp (.inr hh), if_pos rfl, openBand_none hh, hsame]
    | some h =>
      have hr : (s.releaseHold h).asm.plates[p] = some plate := by simpa using hp
      rw [finishBand_done hp hdone hh, if_pos rfl, modPlate_asm, hr]
      simp
  case false => rw [finishBand_goesOn hp (.inl hdone), if_neg Bool.false_ne_true, hsame]

end

/-! ### The end of a plate (R37, R40) -/

/-- The second place of an ended tile: PLATE_DONE with the plate COMPLETE, or given up. -/
theorem finishPlate_eq {s : State} {p : SlotNo} {plate : Plate} (hp : s.asm.plates[p] = some plate) :
    s.finishPlate p = { s with
      asm := { s.asm with
        plates := s.asm.plates.set p (some { plate with state := if plate.allFinal then .complete else plate.state }) }
      report := { s.report with
        queue := s.report.queue ++
          if plate.allFinal then [.plateDone p plate.tag plate.tilesDone plate.tilesFailed] else []
        reserved := s.report.reserved - 1 } } := by
  simp only [State.finishPlate, hp]
  split
  · simp [State.modPlate, State.setPlate, State.queueEssential, hp]
  · have hsame : s.asm.plates.set p (some plate) = s.asm.plates := by
      rw [← hp]
      simp
    simp [State.giveUp, hsame]

/-! ### The end of a tile (R32, R33, R38) -/

/-- The final state that a closing outcome leads to (R30, R32, R33). -/
def Tile.finalFrom (tile : Tile) : ClosingOutcome → TileState
  | .failed r => .failed r
  | _ => if tile.damaged = true then .failed .memory else .done

/-- The record of a tile that ends (R32, R33). -/
def Tile.finalRecord (tile : Tile) (tag : Word) (heat : Nat) : TileState → Record
  | .failed r => .tileFault tile.slot tile.index tag tile.expIndex r tile.retries true
  | _ => .tileDone tile.slot tile.index tag tile.stats.length tile.skipped tile.retries tile.heatWaits tile.stats heat

/-- The plate's count of tiles that ended so. -/
def Plate.countFinal (x : TileState) (p : Plate) : Plate :=
  { p with
    tilesDone := if x = .done then p.tilesDone + 1 else p.tilesDone
    tilesFailed := if x = .done then p.tilesFailed else p.tilesFailed + 1 }

theorem finalFrom_final (tile : Tile) (o : ClosingOutcome) :
    tile.finalFrom o = .done ∨ ∃ r, tile.finalFrom o = .failed r := by
  unfold Tile.finalFrom
  split
  · exact .inr ⟨_, rfl⟩
  · split
    · exact .inr ⟨_, rfl⟩
    · exact .inl rfl

/-- Delivery to a tile whose outcome is DONE or FAILED ends the tile. -/
theorem deliverFence_ends {s : State} {t : TileNo} {tile : Tile} {plate : Plate} {o : ClosingOutcome} {heat : Option Nat}
    (ht : s.asm.tiles[t] = some tile) (hs : tile.state = .closing o heat) (ho : o ≠ .discarded)
    (hp : s.asm.plates[tile.slot] = some plate) :
    s.deliverFence t = s.endTile t tile (tile.finalFrom o) (Plate.countFinal (tile.finalFrom o))
      (tile.finalRecord plate.tag (heat.getD 0) (tile.finalFrom o)) := by
  have hfailed : ∀ r, Plate.countFinal (.failed r) = Plate.countFailed := fun r => rfl
  have hdone : Plate.countFinal .done = Plate.countDone := rfl
  cases o with
  | done =>
    cases hd : tile.damaged <;>
      simp [State.deliverFence, ht, hs, hd, Tile.finalFrom, Tile.finalRecord, hfailed, hdone, State.tileFaultRecord,
        State.tileDoneRecord, tagOf_of_plate hp]
  | failed r =>
    simp [State.deliverFence, ht, hs, Tile.finalFrom, Tile.finalRecord, hfailed, State.tileFaultRecord,
      tagOf_of_plate hp]
  | discarded => exact absurd rfl ho

/-- The state as a tile ends, before its band is checked. -/
def State.tileEnded (t : TileNo) (tile : Tile) (final : TileState) (s : State) : State :=
  (s.setTile t (some { tile with state := final, reservation := 0 })).modPlate tile.slot (Plate.countFinal final)

/-- The plate that a tile's end leaves: counted, its band open when finished, COMPLETE when all its tiles are final. -/
def Plate.ended (final : TileState) (row : Nat) (banded : Bool) (p : Plate) : Plate :=
  let counted := p.countFinal final
  { counted with
    state := if counted.allFinal then .complete else p.state
    bandHolds := if banded then p.bandHolds.set row none else p.bandHolds }

section
variable {s : State} {t : TileNo} {tile : Tile} {plate : Plate} {final : TileState}

theorem tileEnded_plate (hp : s.asm.plates[tile.slot] = some plate) :
    (s.tileEnded t tile final).asm =
      { plates := s.asm.plates.set tile.slot (some (plate.countFinal final))
        tiles := s.asm.tiles.set t (some { tile with state := final, reservation := 0 }) } := by
  have hp' : (s.setTile t (some { tile with state := final, reservation := 0 })).asm.plates[tile.slot] = some plate := hp
  rw [State.tileEnded, modPlate_asm, hp']
  rfl

theorem tileEnded_tileIs (f : Tile → Bool) (x : TileNo) :
    (s.tileEnded t tile final).tileIs f x =
      if x = t then f { tile with state := final, reservation := 0 } else s.tileIs f x := by
  have htiles := setTile_tiles s t x (some { tile with state := final, reservation := 0 })
  unfold State.tileIs State.tileEnded
  rw [modPlate_asm, htiles]
  split <;> rfl

/-- The tables and the report side after a tile's end. -/
theorem endTile_eq (r : Record) (hp : s.asm.plates[tile.slot] = some plate) :
    let v := s.tileEnded t tile final
    let banded := v.bandDone (plate.countFinal final) tile.row
    let u := s.endTile t tile final (Plate.countFinal final) r
    u.asm = { plates := s.asm.plates.set tile.slot (some (plate.ended final tile.row banded))
              tiles := s.asm.tiles.set t (some { tile with state := final, reservation := 0 }) }
      ∧ u.report = { s.report with
        queue := s.report.queue ++ [r] ++ if (plate.countFinal final).allFinal then
          [.plateDone tile.slot plate.tag (plate.countFinal final).tilesDone (plate.countFinal final).tilesFailed]
          else []
        reserved := s.report.reserved - 2 }
      ∧ u.hold = (v.finishBand tile.slot tile.row).hold ∧ u.reads = (v.finishBand tile.slot tile.row).reads := by
  intro v banded u
  have hv : v.asm.plates[tile.slot] = some (plate.countFinal final) := by
    rw [tileEnded_plate hp]
    simp
  let w := v.finishBand tile.slot tile.row
  let closed := if banded then (plate.countFinal final).openBand tile.row else plate.countFinal final
  have hw : w.asm = { v.asm with plates := v.asm.plates.set tile.slot (some closed) } := finishBand_asm hv
  have hwp : (w.queueEssential r).asm.plates[tile.slot] = some closed := by simp [hw]
  have hu : u = (w.queueEssential r).finishPlate tile.slot := rfl
  have hfinal : closed.allFinal = (plate.countFinal final).allFinal := by
    simp only [closed]
    split <;> rfl
  have hreport : w.report = s.report := by simp [w, v, State.tileEnded]
  have hended : ({ closed with state := if closed.allFinal then .complete else closed.state } : Plate) =
      plate.ended final tile.row banded := by
    rw [hfinal]
    simp only [closed, Plate.ended, Plate.openBand]
    cases banded <;> rfl
  have hsecond : closed.tag = plate.tag ∧ closed.tilesDone = (plate.countFinal final).tilesDone
      ∧ closed.tilesFailed = (plate.countFinal final).tilesFailed := by
    simp only [closed]
    split <;> exact ⟨rfl, rfl, rfl⟩
  obtain ⟨htag, hdone, hfailed⟩ := hsecond
  rw [hu, finishPlate_eq hwp, hended, hfinal, htag, hdone, hfailed]
  refine ⟨?_, ?_, rfl, rfl⟩
  · simp only [queueEssential_asm, hw, tileEnded_plate hp, Vector.set_set, v]
  · simp only [queueEssential_report, hreport, Nat.sub_sub]

end

/-! ### A DISCARDED tile (R34, R47) -/

/-- A DISCARDED tile after its fence was delivered (R34). -/
def Tile.returned (tile : Tile) : Tile :=
  { tile with state := .pending, expIndex := 0, stats := [], skipped := false }

theorem deliverFence_returns {s : State} {t : TileNo} {tile : Tile} {heat : Option Nat}
    (ht : s.asm.tiles[t] = some tile) (hs : tile.state = .closing .discarded heat) :
    s.deliverFence t = (s.setTile t (some tile.returned)).freeIfDone tile.slot := by
  simp only [State.deliverFence, ht, hs]
  rfl

theorem freeIfDone_keeps {s : State} {p : SlotNo} {plate : Plate} (hp : s.asm.plates[p] = some plate)
    (h : (∀ d f, plate.state ≠ .dismissing d f) ∨ s.noneClosing plate = false) : s.freeIfDone p = s := by
  cases hs : plate.state with
  | assembling => exact freeIfDone_assembling hp hs
  | complete => simp only [State.freeIfDone, hp, hs]
  | dismissing d f =>
    have hno : s.noneClosing plate = false := h.resolve_left fun hne => hne d f hs
    rw [freeIfDone_dismissing hp hs, hno]
    rfl

/-- Whether the plate has no tile CLOSING once a tile has returned to PENDING. -/
theorem noneClosing_returned (s : State) (t : TileNo) (tile : Tile) (plate : Plate) :
    (s.setTile t (some tile.returned)).noneClosing plate = true ↔
      ∀ x ∈ plate.tiles, x = t ∨ s.tileIs Tile.isClosing x = false := by
  rw [noneClosing_iff]
  refine forall₂_congr fun x _ => ?_
  rw [State.tileIs, setTile_tiles]
  by_cases hx : x = t <;> simp [hx, State.tileIs, Tile.returned, Tile.isClosing]

/-! ### The statement -/

/-- R32, R33, R36 to R40: the end of a tile of an ASSEMBLING plate, field by field. -/
theorem deliverFence_assembling {s : State} {t : TileNo} {tile : Tile} {plate : Plate} {o : ClosingOutcome}
    {heat : Option Nat} (ht : s.asm.tiles[t] = some tile) (hs : tile.state = .closing o heat) (ho : o ≠ .discarded)
    (hp : s.asm.plates[tile.slot] = some plate) (ha : plate.state = .assembling) :
    let final := tile.finalFrom o
    let counted := plate.countFinal final
    let last := counted.tilesDone + counted.tilesFailed = plate.geo.tiles
    let banded := ∀ x ∈ plate.rowTiles tile.row, x = t ∨ s.tileIs Tile.final x = true
    let u := s.deliverFence t
    u.asm.tiles = s.asm.tiles.set t (some { tile with state := final, reservation := 0 })
    ∧ u.asm.plates = s.asm.plates.set tile.slot (some { counted with
        state := if last then .complete else .assembling
        bandHolds := if banded then plate.bandHolds.set tile.row none else plate.bandHolds })
    ∧ u.report = { s.report with
        queue := s.report.queue ++ [tile.finalRecord plate.tag (heat.getD 0) final]
          ++ if last then [.plateDone tile.slot plate.tag counted.tilesDone counted.tilesFailed] else []
        reserved := s.report.reserved - 2 }
    ∧ (∀ h, plate.bandHold tile.row = some h → banded →
        u.hold = { pool := s.hold.pool.set h none, queue := s.hold.queue.filter (·.hold != h) }
        ∧ u.reads = ((s.hold.queue.filter (·.hold == h)).foldl (fun v r => v.forward (r.toRead false)) s).reads)
    ∧ (¬banded ∨ plate.bandHold tile.row = none → u.hold = s.hold ∧ u.reads = s.reads) := by
  intro final counted last banded u
  let v := s.tileEnded t tile final
  have hv : v.asm.plates[tile.slot] = some counted := by
    rw [tileEnded_plate hp]
    simp [counted]
  have hlast : counted.allFinal = true ↔ last := by
    simp [Plate.allFinal, counted, Plate.countFinal, ha, last]
  have hfinal : Tile.final { tile with state := final, reservation := 0 } = true := by
    rcases finalFrom_final tile o with h | ⟨r, h⟩ <;> simp [final, h, Tile.final]
  have hbanded : v.bandDone counted tile.row = true ↔ banded := by
    rw [bandDone_iff, List.all_eq_true]
    refine (and_iff_right ha).trans (forall₂_congr fun x _ => ?_)
    rw [tileEnded_tileIs]
    by_cases hx : x = t <;> simp [hx, hfinal]
  have hu : u = s.endTile t tile final (Plate.countFinal final) (tile.finalRecord plate.tag (heat.getD 0) final) :=
    deliverFence_ends ht hs ho hp
  obtain ⟨hasm, hreport, hhold, hreads⟩ := endTile_eq (t := t) (final := final)
    (tile.finalRecord plate.tag (heat.getD 0) final) hp
  rw [← hu] at hasm hreport hhold hreads
  refine ⟨congrArg Assembly.tiles hasm, (congrArg Assembly.plates hasm).trans ?_, hreport.trans ?_, fun h hh hb => ?_,
    fun hno => ?_⟩
  · have hstate := if_congr hlast (rfl : PlateState.complete = .complete) ha
    have hbands := if_congr hbanded (rfl : plate.bandHolds.set tile.row none = _) (rfl : plate.bandHolds = _)
    exact congrArg (fun x => s.asm.plates.set tile.slot (some x))
      (congrArg₂ (fun x y => { counted with state := x, bandHolds := y }) hstate hbands)
  · have hrecord := if_congr hlast
      (rfl : [Record.plateDone tile.slot plate.tag counted.tilesDone counted.tilesFailed] = _) (rfl : [] = _)
    exact congrArg (fun l : List Record => { s.report with
      queue := s.report.queue ++ [tile.finalRecord plate.tag (heat.getD 0) final] ++ l
      reserved := s.report.reserved - 2 }) hrecord
  · obtain ⟨hpool, hsent⟩ := releaseHold_eq h (s := v) (b := s) ⟨rfl, rfl, rfl, fun _ => rfl⟩
    have hrel := finishBand_done hv (hbanded.2 hb) hh
    exact ⟨hhold.trans ((congrArg State.hold hrel).trans hpool), hreads.trans ((congrArg State.reads hrel).trans hsent)⟩
  · have hstay : v.finishBand tile.slot tile.row = v :=
      finishBand_goesOn hv (hno.imp (fun h => Bool.eq_false_iff.2 fun hb => h (hbanded.1 hb)) id)
    exact ⟨hhold.trans (congrArg State.hold hstay :), hreads.trans (congrArg State.reads hstay :)⟩

/-- Settles O39: `deliverFence_assembling` for DONE and FAILED, `deliverFence_returns` with `freePlate_eq` for
DISCARDED. -/
theorem fenceDeliveryEndsTheTile : Obligations.FenceDeliveryEndsTheTile := by
  unfold Obligations.FenceDeliveryEndsTheTile
  refine ⟨?_, ?_⟩
  · intro s t tile plate o heat ht hs ho hp ha final record done failed banded u
    have hfin : tile.finalFrom o = final := by cases o <;> rfl
    have hrec : tile.finalRecord plate.tag (heat.getD 0) final = record := by
      simp only [record]
      cases final <;> rfl
    obtain ⟨htiles, hplates, hreport, hrelease, hstay⟩ := deliverFence_assembling ht hs ho hp ha
    rw [hfin] at htiles hplates hreport
    rw [hrec] at hreport
    obtain ⟨hport, hmerge, hseq, hstage, hlamp, -⟩ := deliverFence_frame s t
    refine ⟨htiles, hplates, congrArg Report.queue hreport, congrArg Report.reserved hreport, fun h hh hb => ?_, hstay,
      hseq, ?_, hmerge, hlamp, hstage, hport⟩
    · obtain ⟨hhold, hreads⟩ := hrelease h hh hb
      exact ⟨congrArg HoldUnit.pool hhold, congrArg HoldUnit.queue hhold, hreads⟩
    · have hu : u = _ := deliverFence_ends ht hs ho hp
      rw [hu]
      simp
  · intro s t tile plate heat ht hs hp last u
    have hu : u = (s.setTile t (some tile.returned)).freeIfDone tile.slot := deliverFence_returns ht hs
    have hnone : (s.setTile t (some tile.returned)).noneClosing plate = true ↔ last := noneClosing_returned s t tile plate
    have hp' : (s.setTile t (some tile.returned)).asm.plates[tile.slot] = some plate := hp
    refine ⟨fun h => ?_, fun d f hd hlast => ?_⟩
    · rw [hu, freeIfDone_keeps hp' (h.imp id fun hno => Bool.eq_false_iff.2 fun hn => hno (hnone.1 hn))]
      rfl
    · obtain ⟨tiles, hfree, htiles⟩ := freePlate_eq d f hp'
      rw [freeIfDone_dismissing hp' hd, if_pos (hnone.2 hlast), hfree] at hu
      rw [hu]
      refine ⟨rfl, fun x hx => (htiles x).trans (if_pos hx), fun x hx hxt => (htiles x).trans ?_, rfl, rfl, ?_, rfl, rfl,
        rfl, rfl, rfl, rfl, rfl⟩
      · rw [if_neg hx, setTile_tiles, if_neg hxt]
      · exact congrArg (fun l : List Entry => { s.pwq with entries := l })
          (List.map_congr_left fun e _ => dropRef_eq plate.tiles e)

end Sys2Proof.Machine
end

section
/-! PROOFS. What a step can do to the tables, the exposure path, the take and the Report Queue's places, said once: a chain
of moves. The laws of the tables (O56) and of the places (O58) are then kept by each kind of move. -/

namespace Sys2Proof.Machine

/-! ### Changes that no move is needed for -/

/-- The tables, the exposure path and the Report Queue. -/
def State.tables (s : State) : Assembly × Seq × Option Watched × FrameState × Option Nat × List Record × Nat :=
  (s.asm, { s.seq with captureHeld := false }, s.stage.watched, s.merge.frame, s.merge.lastCarrier, s.report.queue,
    s.report.reserved)

/-- All that the two laws read: `State.tables`, the take and the fetch. -/
def State.sight (s : State) := (s.tables, s.plan.take, s.down.fetch)

/-- An IDLE sequencer's part of the law (R50). -/
def State.Resting (s : State) : Prop :=
  s.seq.settleTimer = none ∧ s.seq.deferred = false ∧ s.seq.expTimer = none ∧ s.merge.frame = .closed
    ∧ s.merge.lastCarrier = none

/-- The take's part of the law (R172, R182). -/
structure TakeLaw (s : State) : Prop where
  fetches : ∀ k, s.plan.take = some k → k.step ≠ .fetching → s.down.fetch = .idle
  waiting : ∀ k, s.plan.take = some k → k.step = .waitingReservation →
    ∃ p plate, slotField k.body = some p ∧ s.asm.plates[p] = some plate
      ∧ (plate.state = .assembling ∨ plate.state = .complete)

/-- The second state has the tables of the first, and keeps every other part of the two laws that the first has. -/
structure Alike (s t : State) : Prop where
  asm : t.asm = s.asm
  current : t.seq.current = s.seq.current
  moveok : t.seq.moveok = s.seq.moveok
  watched : t.stage.watched.isSome = s.stage.watched.isSome
  resting : s.seq.current = none → s.Resting → t.Resting
  trig : s.seq.trig = s.seq.pulseTimer.isSome → t.seq.trig = t.seq.pulseTimer.isSome
  takes : TakeLaw s → TakeLaw t
  reserved : t.report.reserved = s.report.reserved
  used : t.report.used ≤ max s.report.used 16

theorem Alike.trans {s t u : State} (h : Alike s t) (g : Alike t u) : Alike s u where
  asm := g.asm.trans h.asm
  current := g.current.trans h.current
  moveok := g.moveok.trans h.moveok
  watched := g.watched.trans h.watched
  resting hc hs := g.resting (h.current.trans hc) (h.resting hc hs)
  trig hs := g.trig (h.trig hs)
  takes hs := g.takes (h.takes hs)
  reserved := g.reserved.trans h.reserved
  used := by
    have := h.used
    have := g.used
    omega

theorem alike_of_tables {s t : State} (h : t.tables = s.tables) (takes : TakeLaw s → TakeLaw t) : Alike s t := by
  simp only [State.tables, Prod.mk.injEq, Seq.mk.injEq] at h
  obtain ⟨hasm, ⟨hcur, hsettle, hpulse, hdeferred, hexp, -, htrig, hmoveok⟩, hwatched, hframe, hcarrier, hqueue, hreserved⟩ := h
  refine ⟨hasm, hcur, hmoveok, by rw [hwatched], fun _ hs => ?_, fun hs => by rw [htrig, hpulse, hs], takes, hreserved,
    ?_⟩
  · unfold State.Resting
    rwa [hsettle, hdeferred, hexp, hframe, hcarrier]
  · simp [Report.used, hqueue, hreserved]

theorem alike_of_sight {s t : State} (h : t.sight = s.sight) : Alike s t := by
  simp only [State.sight, Prod.mk.injEq] at h
  obtain ⟨htables, htake, hfetch⟩ := h
  refine alike_of_tables htables fun law => ⟨fun k hk => ?_, fun k hk => ?_⟩
  · rw [htake] at hk
    rw [hfetch]
    exact law.fetches k hk
  · rw [htake] at hk
    have hasm : t.asm = s.asm := congrArg Prod.fst htables
    rw [hasm]
    exact law.waiting k hk

theorem Alike.refl (s : State) : Alike s s := alike_of_sight rfl

/-- A fold is alike when each of its turns is. -/
theorem foldl_alike {α : Type} (g : State → α → State) (h : ∀ s x, Alike s (g s x)) (l : List α) (s : State) :
    Alike s (l.foldl g s) :=
  foldl_inv (Alike s) g (fun _ x hs => hs.trans (h _ x)) l s (.refl s)

/-! ### Moves -/

/-- A tile keeps its plate, its place in it and the places it holds. -/
structure SamePlace (a b : Tile) : Prop where
  slot : b.slot = a.slot
  index : b.index = a.index
  row : b.row = a.row
  col : b.col = a.col
  reservation : b.reservation = a.reservation

/-- What can happen to the tables and the exposure path. -/
inductive Move (s : State) : State → Prop
  /-- Nothing. -/
  | alike {u : State} (h : Alike s u) : Move s u
  /-- A tile changes within its state, or goes on along the exposure path. -/
  | touch {t : TileNo} {tile next : Tile} (ht : s.asm.tiles[t] = some tile) (hplace : SamePlace tile next)
      (hstate : next.state = tile.state ∨ tile.active = true ∧ next.active = true) : Move s (s.setTile t (some next))
  /-- A PENDING tile of an ASSEMBLING plate is armed (R55). -/
  | arm {p : SlotNo} {plate : Plate} {t : TileNo} {tile : Tile} (hidle : s.seq.current = none)
      (hroom : s.report.used + 2 ≤ 16) (hp : s.asm.plates[p] = some plate) (ha : plate.state = .assembling)
      (hmem : t ∈ plate.tiles) (ht : s.asm.tiles[t] = some tile) (hs : tile.state = .pending) :
      Move s (s.armedFor t plate tile)
  /-- The current tile returns to PENDING (R66). -/
  | abort {t : TileNo} {tile : Tile} {plate : Plate} (hc : s.currentTile = some (t, tile, plate)) (r : Reason) :
      Move s (s.abortToPending t tile r)
  /-- The current tile enters CLOSING with outcome DONE or FAILED (R64, R67). -/
  | close {t : TileNo} {tile next : Tile} {plate : Plate} (hc : s.currentTile = some (t, tile, plate))
      (hplace : SamePlace tile next) {o : ClosingOutcome} (ho : o ≠ .discarded) (heat : Option Nat) :
      Move s (s.setTile t (some { next with state := .closing o heat })).leave
  /-- A fence is delivered (R32, R33, R34). -/
  | fence (t : TileNo) : Move s (s.deliverFence t)
  /-- A plate is accepted (R28). -/
  | plate {p : SlotNo} {ws : List Word} (hp : s.asm.plates[p] = none) (hrows : 0 < (geometryOf ws).rows)
      (hcols : 0 < (geometryOf ws).cols) (hroom : (geometryOf ws).tiles ≤ s.freeTiles.length) :
      Move s (s.acceptPlate p ws)
  /-- A final tile is retaken (R42). -/
  | retake {p : SlotNo} {plate : Plate} {t : TileNo} {tile : Tile} (hp : s.asm.plates[p] = some plate)
      (ha : plate.state = .assembling ∨ plate.state = .complete) (hmem : t ∈ plate.tiles)
      (ht : s.asm.tiles[t] = some tile) (hfinal : tile.final = true) : Move s (s.acceptRetake p t tile)
  /-- A waiting DISMISS finds a place (R182). -/
  | dismiss {k : Take} {p : SlotNo} {plate : Plate} (h : s.dismissReady = some (k, p, plate)) :
      Move s (dismissReservation s)
  /-- The watched target is given up with every slot FREE (R143, R178). -/
  | unwatch (h : ∀ p : SlotNo, s.asm.plates[p] = none) : Move s { s with stage := { s.stage with watched := none } }
  /-- Power-on reset (R120). -/
  | reset (lines : StageLines) (straps : BitVec 12) : Move s (powerOnReset lines straps s)

/-- A chain of moves. -/
abbrev Moves : State → State → Prop := Relation.ReflTransGen Move

theorem Alike.moves {s t : State} (h : Alike s t) : Moves s t := .single (.alike h)

theorem Moves.alike {s t u : State} (h : Moves s t) (g : Alike t u) : Moves s u := h.tail (.alike g)

theorem moves_of_sight {s t : State} (h : t.sight = s.sight) : Moves s t := (alike_of_sight h).moves

theorem Moves.sight {s t u : State} (h : Moves s t) (g : u.sight = t.sight) : Moves s u := h.alike (alike_of_sight g)

/-- A law is kept by a chain of moves when every move keeps it. -/
theorem Moves.keeps {P : State → Prop} (hP : ∀ {s t}, P s → Move s t → P t) {s t : State} (h : Moves s t) (hs : P s) :
    P t := by
  induction h with
  | refl => exact hs
  | tail _ g ih => exact hP ih g

/-- A fold is a chain of moves when each of its turns is. -/
theorem foldl_moves {α : Type} (g : State → α → State) (h : ∀ s x, Moves s (g s x)) (l : List α) (s : State) :
    Moves s (l.foldl g s) :=
  foldl_inv (Moves s) g (fun _ x hs => hs.trans (h _ x)) l s .refl

/-! ### Operations out of sight -/

section
variable (s : State)

@[simp] theorem answer_sight (m : Master) (st : Status) (d : List Word) : (s.answer m st d).sight = s.sight := rfl
@[simp] theorem draw_sight (n : Nat) : (s.draw n).sight = s.sight := rfl
@[simp] theorem applyRequest_sight : s.applyRequest.sight = s.sight := rfl
@[simp] theorem restartDwell_sight : s.restartDwell.sight = s.sight := rfl
@[simp] theorem setCut_sight (b : Bool) : (s.setCut b).sight = s.sight := rfl
@[simp] theorem forward_sight (r : PortRead) : (s.forward r).sight = s.sight := by simp [State.sight, State.tables]
@[simp] theorem passTurn_sight : s.passTurnToReport.sight = s.sight := by simp [State.sight, State.tables]
@[simp] theorem msTick_sight : s.msTick.sight = s.sight := by simp [State.sight, State.tables]
@[simp] theorem idleTimerExpiry_sight : (idleTimerExpiry s).sight = s.sight := by simp [State.sight, State.tables]
@[simp] theorem refresh_sight : (refresh s).sight = s.sight := by simp [State.sight, State.tables]
@[simp] theorem conclude_sight : (conclude s).sight = s.sight := by simp [State.sight, State.tables]

@[simp] theorem holdWrite_sight (c : WriteClass) (w : WriteReq) : (s.holdWrite c w).sight = s.sight := by
  rw [holdWrite_eq]
  rfl

@[simp] theorem releaseHeld_sight (m : Master) : (s.releaseHeld m).sight = s.sight := by
  rw [releaseHeld_eq]
  rfl

@[simp] theorem postFlag_sight (k : PlanSlot) (v : Word) : (s.postFlag k v).sight = s.sight := by
  unfold State.postFlag
  split <;> rfl

@[simp] theorem consumeValue_sight (v : Word) : (s.consumeValue v).sight = s.sight := by
  unfold State.consumeValue
  split
  · rfl
  · split <;> rfl

@[simp] theorem headerDrained_sight (e : Entry) : (s.headerDrained e).sight = s.sight := by
  unfold State.headerDrained
  split <;> rfl

@[simp] theorem readResponds_sight (m : Master) (st : DownStatus) (d : List Word) :
    (s.readResponds m st d).sight = s.sight := by
  unfold State.readResponds
  split
  · rfl
  · cases st <;> rfl

@[simp] theorem dwellExpiry_sight : (dwellExpiry s).sight = s.sight := by
  unfold dwellExpiry
  split <;> rfl

theorem setPos_watched (g : Stage) (ax : Axis) (p : BitVec 24) : (g.setPos ax p).watched = g.watched := by
  cases ax <;> rfl

theorem setHome_watched (g : Stage) (ax : Axis) (b : Bool) : (g.setHome ax b).watched = g.watched := by
  cases ax <;> rfl

theorem flip_watched (g : Stage) (ax : Axis) (line : EncLine) : (g.flip ax line).watched = g.watched := by
  cases ax <;> cases line <;> rfl

theorem takeRef_watched (g : Stage) (ax : Axis) : (g.takeRef ax).watched = g.watched := by
  cases ax <;> rfl

/-- A stage that keeps its watched target is out of sight. -/
theorem withStage_sight {g : Stage} (h : g.watched = s.stage.watched) : ({ s with stage := g } : State).sight = s.sight := by
  simp [State.sight, State.tables, h]

@[simp] theorem count_sight (ax : Axis) (p : BitVec 24) : (s.count ax p).sight = s.sight :=
  withStage_sight s (setPos_watched s.stage ax p)

@[simp] theorem fallingHomeEdge_sight (ax : Axis) : (fallingHomeEdge ax s).sight = s.sight := by
  unfold fallingHomeEdge
  split
  · exact withStage_sight s (setHome_watched s.stage ax false)
  · rfl

end

end Sys2Proof.Machine
end

section
/-! PROOFS. Every step is a chain of moves: each operation of the part, then each command, then the step. -/

namespace Sys2Proof.Machine

/-! ### Records and reads -/

theorem offer_alike (s : State) (r : Record) : Alike s (s.offer r) := by
  unfold State.offer
  split
  · exact .refl s
  · split
    · next hroom =>
      refine { Alike.refl s with used := ?_, takes := fun h => ⟨h.fetches, h.waiting⟩ }
      simp only [Report.used, Config.reportPlaces, List.length_append, List.length_singleton] at hroom ⊢
      omega
    · exact alike_of_sight rfl

theorem forwardStale_alike (s : State) (cause : StaleCause) (r : HeldRead) : Alike s (s.forwardStale cause r) :=
  (alike_of_sight (forward_sight s (r.toRead true))).trans (offer_alike _ _)

theorem holdTimerExpiry_alike (s : State) (m : Master) : Alike s (holdTimerExpiry m s) :=
  (alike_of_sight (s := s) (t := { s with hold := { s.hold with queue := s.hold.queue.filter (!·.master == m) } }) rfl).trans
    (foldl_alike _ (fun s r => forwardStale_alike s .timeout r) (s.hold.queue.filter (·.master == m)) _)

theorem heldReadArrives_alike (s : State) (h : HoldNo) (policy : Policy) (r : ReadReq) :
    Alike s (s.heldReadArrives h policy r) := by
  cases policy with
  | wait => exact alike_of_sight rfl
  | pass => exact forwardStale_alike s .pass _

theorem presentRead_alike (s : State) (r : ReadReq) : Alike s (s.presentRead r) := by
  unfold State.presentRead
  split
  · exact alike_of_sight rfl
  split
  · exact .refl s
  · have hflag : Alike s { s with port := { s.port with outstanding := s.port.outstanding.set r.master true } } :=
      alike_of_sight rfl
    unfold State.decodeRead
    split
    · exact hflag.trans (heldReadArrives_alike _ _ _ _)
    · exact hflag.trans (alike_of_sight (forward_sight _ _))

/-! ### The take -/

theorem takeLaw_of_fetching {s : State} (h : ∀ k, s.plan.take = some k → k.step = .fetching) : TakeLaw s where
  fetches k hk hne := absurd (h k hk) hne
  waiting k hk hs := by
    rw [h k hk] at hs
    cases hs

theorem takeLaw_of_idle {s : State} (hf : s.down.fetch = .idle)
    (h : ∀ k, s.plan.take = some k → k.step ≠ .waitingReservation) : TakeLaw s where
  fetches _ _ _ := hf
  waiting k hk hs := absurd hs (h k hk)

theorem result_takeLaw (s : State) (k : Take) (code : Code) (d : Nat) : TakeLaw (s.result k code d) := by
  refine takeLaw_of_idle rfl fun k hk => ?_
  simp only [State.result, finishTake_plan, Option.map_eq_some_iff] at hk
  obtain ⟨k', -, rfl⟩ := hk
  exact TakeStep.noConfusion

theorem result_alike (s : State) (k : Take) (code : Code) (d : Nat) : Alike s (s.result k code d) :=
  alike_of_tables rfl fun _ => result_takeLaw s k code d

theorem startTake_alike (s : State) (k : PlanSlot) : Alike s (s.startTake k) := by
  rw [startTake_eq]
  refine alike_of_tables rfl fun _ => takeLaw_of_fetching fun k' hk => ?_
  cases hk
  rfl

theorem search_alike (s : State) : Alike s s.search := by
  unfold State.search
  split
  · exact startTake_alike s _
  · exact .refl s

theorem endTake_alike (s : State) (k : Take) : Alike s (s.endTake k) :=
  (alike_of_tables (s := s) (t := { s with plan := { s.plan with take := none, takeIndex := k.slot + 1 } }) rfl fun _ =>
    takeLaw_of_fetching fun _ hk => nomatch hk).trans (search_alike _)

/-- A line read is presented or answered only while its slot is FETCHING (R172). -/
theorem TakeLaw.fetching {s : State} {k : Take} (law : TakeLaw s) (hk : s.plan.take = some k)
    (hf : s.down.fetch ≠ .idle) : k.step = .fetching := by
  by_contra hne
  exact hf (law.fetches k hk hne)

theorem withFetch_alike {s : State} (f : Fetch) (hf : s.down.fetch ≠ .idle) :
    Alike s { s with down := { s.down with fetch := f } } :=
  alike_of_tables rfl fun law => takeLaw_of_fetching fun _ hk => law.fetching hk hf

theorem presentDeferred_alike (s : State) : Alike s s.presentDeferred := by
  unfold State.presentDeferred
  split
  · next k hf hk =>
    rw [presentFetch_eq]
    exact withFetch_alike _ (by simp [hf])
  · exact .refl s

theorem postRead_takeLaw {k : Take} (s : State) (d : List Word) (h : k.step = .fetching) : TakeLaw (s.postRead k d) := by
  unfold State.postRead
  simp only []
  split
  · exact result_takeLaw _ _ _ _
  · refine takeLaw_of_fetching fun k' hk => ?_
    cases hk
    exact h

theorem lineRead_takeLaw {k : Take} {s : State} (line : Fin 8) (d : List Word) (h : k.step = .fetching)
    (hf : s.down.fetch = .idle) : TakeLaw (s.lineRead k line d) := by
  unfold State.lineRead
  simp only []
  split
  · refine takeLaw_of_fetching fun k' hk => ?_
    cases hk
    exact h
  · refine takeLaw_of_idle hf fun k' hk => ?_
    cases hk
    exact TakeStep.noConfusion

theorem fetchResponds_tables (s : State) (st : DownStatus) (d : List Word) :
    (s.fetchResponds st d).tables = s.tables := by
  unfold State.fetchResponds
  split
  · cases st with
    | fault => rfl
    | ok =>
      simp only [State.postRead, State.lineRead]
      split
      · split <;> rfl
      · split <;> rfl
  · rfl

theorem fetchResponds_alike (s : State) (st : DownStatus) (d : List Word) : Alike s (s.fetchResponds st d) := by
  refine alike_of_tables (fetchResponds_tables s st d) fun law => ?_
  unfold State.fetchResponds
  split
  · next line k hf hk =>
    have hstep : k.step = .fetching := law.fetching hk (by simp [hf])
    cases st with
    | fault => exact result_takeLaw _ _ _ _
    | ok =>
      simp only []
      split
      · exact postRead_takeLaw _ _ hstep
      · exact lineRead_takeLaw _ _ hstep rfl
  · exact law

/-- A record that is fetched has its fetch behind it, so a DISMISS that waits has too (R172, R182). -/
theorem dismissRecord_alike (s : State) : Alike s (dismissRecord s) := by
  unfold dismissRecord
  split
  · exact .refl s
  next k hk =>
  split
  · exact result_alike s _ _ _
  split
  · exact result_alike s _ _ _
  next p hp =>
  split
  · exact result_alike s _ _ _
  next plate hplate =>
  obtain ⟨htake, hstep, -⟩ := fetched_some hk
  obtain ⟨hsp, hstate, -⟩ := namedPlate_some hplate
  refine alike_of_tables rfl fun law => ⟨fun k' _ _ => law.fetches k htake (by simp [hstep]), fun k' hk' _ => ?_⟩
  cases hk'
  exact ⟨p, plate, hp, hsp, hstate⟩

/-! ### The queue -/

theorem placeOne_alike (s : State) (w : QWrite) : Alike s (s.placeOne w) := by
  by_cases hw : w.tileRef.isSome = true ∧ w.tileRef = s.seq.current
  · have hbusy : s.seq.current ≠ none := by
      rw [← hw.2]
      exact Option.isSome_iff_ne_none.1 hw.1
    exact { Alike.refl s with
      resting := fun hc => absurd hc hbusy, takes := fun h => ⟨h.fetches, h.waiting⟩ }
  · refine alike_of_sight ?_
    rw [placeOne_other (by simpa [or_iff_not_imp_left, ← Option.isSome_iff_ne_none] using hw)]
    rfl

theorem placeAll_alike (s : State) (ws : List QWrite) : Alike s (s.placeAll ws) :=
  foldl_alike _ (fun s w => placeOne_alike s w) ws s

theorem enterReady_alike (s : State) (w : QWrite) : Alike s (s.enterReady w) :=
  (alike_of_sight (s := s) (t := { s with
    report := { s.report with ready := s.report.ready.tail, waits := false }
    port := if s.port.held.isSome then { s.port with turn := .upstream } else s.port }) rfl).trans (placeOne_alike _ w)

/-- A record line that enters takes its record out of the queue (R189). -/
theorem recordLineEntry_alike (s : State) : Alike s (recordLineEntry s) := by
  unfold recordLineEntry
  split
  · next st r rest _ _ hq =>
    split
    · have henter := enterReady_alike s (recordWrite st s.report.produce r s.report.dropped)
      refine { henter with used := ?_, takes := fun h => ⟨(henter.takes h).fetches, (henter.takes h).waiting⟩ }
      simp [Report.used, hq]
    · exact .refl s
  · exact .refl s

theorem headerLineEntry_alike (s : State) : Alike s (headerLineEntry s) := by
  unfold headerLineEntry
  split
  · split
    · exact enterReady_alike s _
    · exact .refl s
  · split
    · exact enterReady_alike s _
    · exact .refl s
  · exact .refl s

theorem resultWordEntry_alike (s : State) : Alike s (resultWordEntry s) := by
  unfold resultWordEntry
  split
  · split
    · split
      · exact (enterReady_alike s _).trans (endTake_alike _ _)
      · exact .refl s
    · exact .refl s
  · exact .refl s

/-! ### The exposure path -/

theorem SamePlace.refl (tile : Tile) : SamePlace tile tile := ⟨rfl, rfl, rfl, rfl, rfl⟩

theorem arm_samePlace (tile : Tile) (e : Nat) (zone : Zone) : SamePlace tile (tile.arm e zone) := by
  rw [arm_eq]
  exact ⟨rfl, rfl, rfl, rfl, rfl⟩

theorem arm_active (tile : Tile) (e : Nat) (zone : Zone) : (tile.arm e zone).active = true := by
  rw [arm_eq]
  rfl

/-- The current tile's state may change as long as it stays with the sequencer. -/
theorem touch_current {s : State} {t : TileNo} {tile next : Tile} {plate : Plate}
    (hc : s.currentTile = some (t, tile, plate)) (hplace : SamePlace tile next) (hactive : next.active = true) :
    Moves s (s.setTile t (some next)) := by
  obtain ⟨-, ht, -, ha⟩ := currentTile_some.1 hc
  exact .single (.touch ht hplace (.inr ⟨ha, hactive⟩))

/-- With a tile in the sequencer its timers, its frame and its carrier may stand as they like. -/
theorem alike_of_busy {s t : State} (hbusy : s.seq.current ≠ none) (hasm : t.asm = s.asm)
    (hcur : t.seq.current = s.seq.current) (hmove : t.seq.moveok = s.seq.moveok) (hwatch : t.stage.watched = s.stage.watched)
    (htrig : s.seq.trig = s.seq.pulseTimer.isSome → t.seq.trig = t.seq.pulseTimer.isSome)
    (htake : t.plan.take = s.plan.take ∧ t.down.fetch = s.down.fetch) (hreport : t.report = s.report) : Alike s t := by
  obtain ⟨htake, hfetch⟩ := htake
  refine ⟨hasm, hcur, hmove, by rw [hwatch], fun hc => absurd hc hbusy, htrig, fun law => ⟨fun k hk => ?_, fun k hk => ?_⟩,
    by rw [hreport], by rw [hreport]; exact le_max_left _ _⟩
  · rw [hfetch]
    exact law.fetches k (htake ▸ hk)
  · rw [hasm]
    exact law.waiting k (htake ▸ hk)

theorem current_ne_none {s : State} {t : TileNo} {tile : Tile} {plate : Plate}
    (hc : s.currentTile = some (t, tile, plate)) : s.seq.current ≠ none := by
  obtain ⟨hcur, -⟩ := currentTile_some.1 hc
  simp [hcur]

theorem startExposure_moves {s : State} {t : TileNo} {tile : Tile} {plate : Plate}
    (hc : s.currentTile = some (t, tile, plate)) : Moves s (s.startExposure t tile) := by
  have hbusy := current_ne_none hc
  refine (touch_current hc (next := { tile with state := .exposing }) ⟨rfl, rfl, rfl, rfl, rfl⟩ rfl).alike ?_
  exact alike_of_busy hbusy rfl rfl rfl rfl (fun _ => rfl) ⟨rfl, rfl⟩ rfl

theorem settleExpires_moves {s : State} {t : TileNo} {tile : Tile} {plate : Plate}
    (hc : s.currentTile = some (t, tile, plate)) : Moves s (s.settleExpires t tile) := by
  unfold State.settleExpires
  split
  · refine Alike.moves ?_
    exact alike_of_busy (current_ne_none hc) rfl rfl rfl rfl id ⟨rfl, rfl⟩ rfl
  · exact startExposure_moves hc

theorem settleExpiry_moves (s : State) : Moves s (settleExpiry s) := by
  unfold settleExpiry
  split
  · next hc =>
    split
    · exact settleExpires_moves hc
    · exact .refl
  · exact .refl

theorem deferredTrigger_moves (s : State) : Moves s (deferredTrigger s) := by
  unfold deferredTrigger
  split
  · exact .refl
  · next hc =>
    split
    · exact startExposure_moves hc
    · exact .refl

theorem triggerPulseEnd_alike (s : State) : Alike s (triggerPulseEnd s) := by
  unfold triggerPulseEnd
  split
  · exact .refl s
  · exact { Alike.refl s with trig := fun _ => rfl, takes := fun h => ⟨h.fetches, h.waiting⟩ }

theorem enterSettling_moves {s : State} {t : TileNo} {tile : Tile} {plate : Plate}
    (hc : s.currentTile = some (t, tile, plate)) : Moves s (s.enterSettling t tile) := by
  obtain ⟨hcur, -, hp, -⟩ := currentTile_some.1 hc
  let u : State := { s.setTile t (some { tile with state := .settling }) with
    seq := { s.seq with settleTimer := some (.start (s.setting (·.settleTime))) } }
  have hbusy := current_ne_none hc
  have hu : Moves s u := by
    refine (touch_current hc (next := { tile with state := .settling }) ⟨rfl, rfl, rfl, rfl, rfl⟩ rfl).alike ?_
    exact alike_of_busy hbusy rfl rfl rfl rfl id ⟨rfl, rfl⟩ rfl
  have huc : u.currentTile = some (t, { tile with state := .settling }, plate) :=
    currentTile_some.2 ⟨hcur, setTile_self s t _, hp, rfl⟩
  unfold State.enterSettling
  simp only []
  split
  · exact hu.trans (settleExpires_moves huc)
  · exact hu

theorem latch_moves (s : State) : Moves s s.latch := by
  unfold State.latch
  split
  · exact .refl
  · next hc =>
    split
    · exact enterSettling_moves hc
    · exact .refl

theorem periodEnd_moves (s : State) : Moves s (periodEnd s) := by
  unfold periodEnd
  split
  · exact (moves_of_sight (applyRequest_sight s)).trans (latch_moves _)
  · exact .refl

theorem turnOn_moves (s : State) : Moves s s.turnOn :=
  (moves_of_sight (s := s) (t := State.formRequest { s with lamp := { s.lamp with on := true, idleTimer := 0 } }) rfl).trans
    ((moves_of_sight (applyRequest_sight _)).trans (latch_moves _))

theorem offerStray_alike (s : State) : Alike s s.offerStray := by
  unfold State.offerStray
  split
  · exact (offer_alike s _).trans (alike_of_sight rfl)
  · exact .refl s

theorem armTile_moves {s : State} {p : SlotNo} {plate : Plate} {t : TileNo} {tile : Tile} (hidle : s.seq.current = none)
    (hroom : s.report.used + 2 ≤ 16) (hp : s.asm.plates[p] = some plate) (ha : plate.state = .assembling)
    (hmem : t ∈ plate.tiles) (ht : s.asm.tiles[t] = some tile) (hs : tile.state = .pending) :
    Moves s (s.armTile t plate tile) := by
  have harm : Moves s (s.armedFor t plate tile) := .single (.arm hidle hroom hp ha hmem ht hs)
  let u : State := { s.armedFor t plate tile with lamp := s.lamp }
  have hu : Moves s u.offerStray := (harm.sight (u := u) rfl).alike (offerStray_alike u)
  have hv : Moves s { u.offerStray with lamp := { u.offerStray.lamp with idleTimer := 0 } } := hu.sight rfl
  unfold State.armTile
  simp only []
  split
  · exact hv
  · exact hv.trans (turnOn_moves _)

/-- R53, R54: the tile that is armed is a PENDING one of an ASSEMBLING plate. -/
theorem candidate_some {s : State} {t : TileNo} {plate : Plate} (h : s.candidate = some (t, plate)) :
    ∃ (p : SlotNo) (tile : Tile), s.asm.plates[p] = some plate ∧ plate.state = .assembling ∧ t ∈ plate.tiles
      ∧ s.asm.tiles[t] = some tile ∧ tile.state = .pending := by
  obtain ⟨p, -, hp⟩ := List.exists_of_findSome?_eq_some h
  unfold State.candidateIn at hp
  split at hp
  · cases hp
  next pl hpl =>
  split at hp
  · next ha =>
    simp only [Option.map_eq_some_iff, Prod.mk.injEq] at hp
    obtain ⟨t', hfind, rfl, rfl⟩ := hp
    obtain ⟨tile, ht, hs, -⟩ := (qualifies_iff s pl t').1 (List.find?_some hfind)
    exact ⟨p, tile, hpl, ha, List.mem_of_find?_eq_some hfind, ht, hs⟩
  · cases hp

theorem arming_moves (s : State) : Moves s (arming s) := by
  by_cases hm : s.mayArm = true
  · cases hc : s.candidate with
    | none => rw [arming_waits (.inr hc)]
    | some x =>
      obtain ⟨t, plate⟩ := x
      obtain ⟨p, tile, hp, ha, hmem, ht, hs⟩ := candidate_some hc
      obtain ⟨hidle, -, -, -, hroom⟩ := (mayArm_iff s).1 hm
      rw [arming_candidate hm hc ht]
      exact armTile_moves hidle (Nat.add_le_add_right hroom 2) hp ha hmem ht hs
  · rw [arming_waits (.inl (Bool.eq_false_iff.2 hm))]

/-- The current tile enters CLOSING with outcome DONE or FAILED, and its fence is placed or delivered (R24). -/
theorem closeCurrent_moves {s : State} {t : TileNo} {tile next : Tile} {plate : Plate} {o : ClosingOutcome}
    (heat : Option Nat) (hc : s.currentTile = some (t, tile, plate)) (hplace : SamePlace tile next)
    (ho : o ≠ .discarded) : Moves s (s.closeCurrent t next o heat) := by
  have hclose : Moves s (s.setTile t (some { next with state := .closing o heat })).leave :=
    .single (.close hc hplace ho heat)
  cases hcarrier : s.merge.lastCarrier with
  | some id =>
    rw [closeCurrent_carrier _ _ _ _ hcarrier]
    exact hclose.sight rfl
  | none =>
    rw [closeCurrent_noCarrier _ _ _ _ hcarrier]
    exact hclose.tail (.fence t)

theorem abort_moves (s : State) (r : Reason) : Moves s (s.abort r) := by
  unfold State.abort
  split
  · exact .refl
  · next hc =>
    split
    · exact closeCurrent_moves none hc (.refl _) (by simp)
    · exact .single (.abort hc r)

theorem exposureTimerExpiry_moves (s : State) : Moves s (exposureTimerExpiry s) := by
  unfold exposureTimerExpiry
  split
  · exact .refl
  · split
    · exact .refl
    · exact abort_moves s _

/-! ### Captures -/

theorem completeFrame_moves {s : State} {t : TileNo} {tile : Tile} {plate : Plate}
    (hc : s.currentTile = some (t, tile, plate)) : Moves s (s.completeFrame t tile plate) := by
  by_cases hskip : s.merge.exposure + 1 < plate.bracket.length ∧ s.merge.dark ≠ 0
  · have hbusy := current_ne_none hc
    have hplace := arm_samePlace (tile.addStats s.merge.dark s.merge.clip) (s.merge.exposure + 1) s.lamp.zone
    rw [completeFrame_arms hskip]
    refine (touch_current hc ⟨hplace.slot, hplace.index, hplace.row, hplace.col, hplace.reservation⟩
      (arm_active _ _ _)).alike ?_
    exact alike_of_busy hbusy rfl rfl rfl rfl id ⟨rfl, rfl⟩ rfl
  · rw [completeFrame_closes hskip]
    exact closeCurrent_moves _ hc ⟨rfl, rfl, rfl, rfl, rfl⟩ (by simp)

theorem handOver_moves (s : State) (sc : Scan) : Moves s (s.handOver sc) := by
  unfold State.handOver
  split
  · next hc => exact completeFrame_moves hc
  · exact .refl

/-- A frame that completes is CLOSED, so an IDLE sequencer's stays so. -/
theorem takeCounts_alike (s : State) (sc : Scan) : Alike s (s.takeCounts sc) := by
  refine { Alike.refl s with resting := fun _ h => ?_, takes := fun h => ⟨h.fetches, h.waiting⟩ }
  obtain ⟨hsettle, hdeferred, hexp, hframe, hcarrier⟩ := h
  exact ⟨hsettle, hdeferred, hexp, by simp [hframe], hcarrier⟩

theorem enterWrite_moves (s : State) (c : WriteClass) (w : WriteReq) : Moves s (s.enterWrite c w) := by
  by_cases hc : c = .capture
  · subst hc
    exact ((placeAll_alike s _).trans (takeCounts_alike _ _)).moves.trans (handOver_moves _ _)
  · rw [enterWrite_plain c hc]
    exact (placeAll_alike s _).moves

theorem postWrite_moves (s : State) (c : WriteClass) (w : WriteReq) : Moves s (s.postWrite c w) := by
  unfold State.postWrite
  simp only []
  split
  · refine Moves.sight (.trans ?_ (enterWrite_moves _ c w)) (answer_sight _ _ _ _)
    split
    · exact .refl
    · exact moves_of_sight (passTurn_sight s)
  · exact moves_of_sight (holdWrite_sight s c w)

theorem decodeWrite_moves (s : State) (w : WriteReq) : Moves s (s.decodeWrite w) := by
  unfold State.decodeWrite
  split
  · next k v _ =>
    have hpost : Moves s ((s.postFlag k v).postWrite (.post k v) w) :=
      (moves_of_sight (postFlag_sight s k v)).trans (postWrite_moves _ _ w)
    simp only []
    split
    · exact hpost
    · exact hpost.alike (search_alike _)
  · exact (moves_of_sight (consumeValue_sight s _)).trans (postWrite_moves _ _ w)
  · exact postWrite_moves s _ w
  · exact ((alike_of_sight (answer_sight s _ _ _)).trans (offer_alike _ _)).moves
  · exact postWrite_moves s _ w

theorem presentWrite_moves (s : State) (w : WriteReq) : Moves s (s.presentWrite w) := by
  unfold State.presentWrite
  split
  · exact moves_of_sight (answer_sight s _ _ _)
  split
  · exact .refl
  split
  · exact .refl
  · exact decodeWrite_moves s w

theorem heldWriteEntry_moves (s : State) : Moves s (heldWriteEntry s) := by
  unfold heldWriteEntry
  split
  · exact .refl
  simp only []
  split
  · refine Moves.alike (Moves.sight (.trans (Moves.sight ?_ (releaseHeld_sight _ _)) (enterWrite_moves _ _ _))
      (answer_sight _ _ _ _)) (presentDeferred_alike _)
    split
    · exact .refl
    · exact moves_of_sight (passTurn_sight s)
  · exact .refl

/-! ### Grants and responses -/

theorem arbiterGrant_alike (s : State) : Alike s (arbiterGrant s) := by
  unfold arbiterGrant
  split
  · exact alike_of_sight rfl
  next c _ =>
  have hready : Alike s { s.moveRotation c with down := { (s.moveRotation c).down with accept := false } } := by
    unfold State.moveRotation
    split <;> exact alike_of_sight rfl
  refine hready.trans ?_
  cases c with
  | read =>
    simp only [State.grant, State.grantRead]
    split <;> exact alike_of_sight rfl
  | drain =>
    simp only [State.grant, State.grantDrain]
    split <;> exact alike_of_sight rfl
  | fetch =>
    simp only [State.grant, State.grantFetch]
    split
    · next hf _ => exact (withFetch_alike _ (by simp [hf])).trans (alike_of_sight rfl)
    · exact .refl _

theorem charge_moves (s : State) (e : Entry) : Moves s (s.charge e) := by
  unfold State.charge
  split
  · next t _ =>
    cases ht : s.asm.tiles[t] with
    | none =>
      refine moves_of_sight ?_
      have hsame : s.asm.tiles.set t none = s.asm.tiles := by rw [← ht]; simp
      simp [State.sight, State.tables, ht, hsame]
    | some tile =>
      rw [State.modTile, ht]
      exact .single (.touch ht ⟨rfl, rfl, rfl, rfl, rfl⟩ (.inl rfl))
  · split
    · exact moves_of_sight rfl
    · exact (offer_alike s _).moves

theorem leaveSnapshots_alike (s : State) (id : Nat) : Alike s (s.leaveSnapshots id) := by
  by_cases hf : s.down.fetch = .idle
  · refine alike_of_sight ?_
    simp [State.sight, State.tables, hf, Fetch.without]
  · exact (withFetch_alike _ hf).trans (alike_of_sight rfl)

theorem dropCarrier_alike (s : State) (id : Nat) : Alike s (s.dropCarrier id) := by
  rw [dropCarrier_eq]
  refine { Alike.refl s with resting := fun _ h => ?_, takes := fun h => ⟨h.fetches, h.waiting⟩ }
  obtain ⟨hsettle, hdeferred, hexp, hframe, hcarrier⟩ := h
  exact ⟨hsettle, hdeferred, hexp, hframe, by simp [hcarrier]⟩

theorem retired_moves (s : State) (st : DownStatus) (e : Entry) : Moves s (s.retired st e) := by
  unfold State.retired
  simp only []
  have hcharge : Moves s (if st = .fault then s.charge e else s) := by
    split
    · exact charge_moves s e
    · exact .refl
  have hgone := ((hcharge.alike (leaveSnapshots_alike _ e.id)).alike (dropCarrier_alike _ e.id)).sight
    (headerDrained_sight _ e)
  unfold State.deliverOf
  split
  · exact hgone
  · exact hgone.tail (.fence _)

theorem drainResponds_moves (s : State) (st : DownStatus) : Moves s (s.drainResponds st) := by
  unfold State.drainResponds
  split
  · exact .refl
  · split
    · next e rest _ _ =>
      exact (moves_of_sight (s := s) (t := { s with pwq := { s.pwq with entries := rest } }) rfl).trans (retired_moves _ st e)
    · exact .refl

theorem responds_moves (s : State) (id : Ident) (st : DownStatus) (d : List Word) : Moves s (s.responds id st d) := by
  cases id with
  | master m => exact moves_of_sight (readResponds_sight s m st d)
  | fetch => exact (fetchResponds_alike s st d).moves
  | drain => exact drainResponds_moves s st

/-! ### Plan records -/

/-- A plate that passes its checks has a tile, and tile columns (Table 1-4). -/
theorem plateChecks_sized {ws : List Word} (h : firstFailing (plateChecks ws) = none) :
    0 < (geometryOf ws).rows ∧ 0 < (geometryOf ws).cols := by
  have hpass : ∀ c ∈ plateChecks ws, c.1 = true := by
    simpa [firstFailing, List.find?_eq_none] using h
  have hrows := hpass (1 ≤ (geometryOf ws).rows && (geometryOf ws).rows ≤ 8, 1) (by simp [plateChecks])
  have hcols := hpass (1 ≤ (geometryOf ws).cols && (geometryOf ws).cols ≤ 8, 2) (by simp [plateChecks])
  simp only [Bool.and_eq_true, decide_eq_true_eq] at hrows hcols
  omega

theorem plateRecord_moves (s : State) : Moves s (plateRecord s) := by
  unfold plateRecord
  split
  · exact .refl
  next k hk =>
  split
  · exact (result_alike s _ _ _).moves
  split
  · exact (result_alike s _ _ _).moves
  next hcheck =>
  split
  · exact (result_alike s _ _ _).moves
  split
  · exact (result_alike s _ _ _).moves
  next hroom =>
  split
  · exact (result_alike s _ _ _).moves
  next p more hslots =>
  have hp : s.asm.plates[p] = none := by
    have hmem : p ∈ s.freeSlots := by simp [hslots]
    simpa [State.freeSlots] using hmem
  have htiles : (geometryOf k.body).tiles ≤ s.freeTiles.length := by
    simp only [State.hasRoom, Bool.not_eq_true', Bool.not_eq_false, Bool.and_eq_true, decide_eq_true_eq] at hroom
    obtain ⟨⟨-, htiles⟩, -⟩ := hroom
    exact htiles
  obtain ⟨hrows, hcols⟩ := plateChecks_sized hcheck
  exact Moves.alike (.single (.plate hp hrows hcols htiles)) (result_alike _ _ _ _)

theorem mem_of_tileOf {s : State} {plate : Plate} {i : Nat} {t : TileNo} {tile : Tile}
    (h : s.tileOf plate i = some (t, tile)) : t ∈ plate.tiles ∧ s.asm.tiles[t] = some tile := by
  simp only [State.tileOf, Option.bind_eq_bind, Option.bind_eq_some_iff, Option.pure_def, Option.some.injEq,
    Prod.mk.injEq] at h
  obtain ⟨t', hi, tile', ht, rfl, rfl⟩ := h
  exact ⟨List.mem_of_getElem? hi, ht⟩

theorem retakeRecord_moves (s : State) : Moves s (retakeRecord s) := by
  unfold retakeRecord
  split
  · exact .refl
  split
  · exact (result_alike s _ _ _).moves
  split
  · exact (result_alike s _ _ _).moves
  split
  · exact (result_alike s _ _ _).moves
  next plate hplate =>
  split
  · exact (result_alike s _ _ _).moves
  next t tile ht =>
  split
  · exact (result_alike s _ _ _).moves
  next hfinal =>
  split
  · exact (result_alike s _ _ _).moves
  obtain ⟨hp, hstate, -⟩ := namedPlate_some hplate
  obtain ⟨hmem, htile⟩ := mem_of_tileOf ht
  exact Moves.alike (.single (.retake hp hstate hmem htile (by simpa using hfinal))) (result_alike _ _ _ _)

theorem dismissReservation_moves (s : State) : Moves s (dismissReservation s) := by
  cases h : s.dismissReady with
  | none =>
    have hs : dismissReservation s = s := by simp only [dismissReservation, h]
    rw [hs]
  | some x => exact .single (.dismiss h)

/-! ### Stage, lamp and heat -/

theorem decodeAxis_moves (s : State) (ax : Axis) : Moves s (s.decodeAxis ax) := by
  have hcheck : ∀ (u : State) p, Moves u ((u.count ax p).checkTolerance ax) := fun u p => by
    unfold State.checkTolerance
    split
    · exact (moves_of_sight (count_sight u ax p)).trans (abort_moves _ _)
    · exact moves_of_sight (count_sight u ax p)
  have href : Moves s { s with stage := s.stage.takeRef ax } :=
    moves_of_sight (withStage_sight s (takeRef_watched s.stage ax))
  unfold State.decodeAxis
  simp only []
  split
  · exact href
  · exact href.trans (hcheck _ _)
  · exact href.trans (hcheck _ _)
  · split
    · exact (href.alike (offer_alike _ _)).trans (abort_moves _ _)
    · exact href

theorem validTransition_moves (s : State) (ax : Axis) (line : EncLine) : Moves s (validTransition ax line s) :=
  (moves_of_sight (withStage_sight s (flip_watched s.stage ax line))).trans (decodeAxis_moves _ ax)

theorem invalidTransition_moves (s : State) (ax : Axis) : Moves s (invalidTransition ax s) :=
  (moves_of_sight (withStage_sight s ((flip_watched _ ax .b).trans (flip_watched s.stage ax .a)))).trans
    (decodeAxis_moves _ ax)

theorem homeEdge_moves (s : State) (ax : Axis) : Moves s (homeEdge ax s) := by
  unfold homeEdge
  split
  · exact .refl
  have hlevel : Moves s { s with stage := s.stage.setHome ax true } :=
    moves_of_sight (withStage_sight s (setHome_watched s.stage ax true))
  simp only []
  refine Relation.ReflTransGen.trans ?_ (abort_moves _ .homed)
  split
  · exact hlevel
  · exact hlevel.sight (count_sight _ _ _)

theorem cutRise_moves (s : State) : Moves s (cutRise s) := by
  unfold cutRise
  split
  · exact .refl
  · exact ((moves_of_sight (setCut_sight s true)).alike (offer_alike _ _)).trans (abort_moves _ _)

theorem cutFall_alike (s : State) : Alike s (cutFall s) := by
  unfold cutFall
  split
  · exact (alike_of_sight (setCut_sight s false)).trans (offer_alike _ _)
  · exact .refl s

theorem lineEvent_moves (c : Instr) (s : State) : Moves s (lineEvent c s) := by
  unfold lineEvent
  split
  · exact validTransition_moves s _ _
  · exact invalidTransition_moves s _
  · exact homeEdge_moves s _
  · exact moves_of_sight (fallingHomeEdge_sight s _)
  · exact cutRise_moves s
  · exact (cutFall_alike s).moves
  · exact .refl

/-- R56, R159: judging the zone changes at most the heat waits of a tile that is ARMED. -/
theorem judgeZone_moves (s : State) : Moves s s.judgeZone := by
  unfold State.judgeZone
  split
  · exact .refl
  next st _ =>
  have hzone : Moves s { s with lamp := { s.lamp with zone := zoneNow st s.lamp.zone s.lamp.heat } } := moves_of_sight rfl
  simp only []
  split
  · exact hzone
  next t _ =>
  split
  · next h =>
    obtain ⟨-, -, harmed⟩ := h
    obtain ⟨tile, ht, -⟩ := (Option.any_eq_true _ _).1 harmed
    refine hzone.tail ?_
    simp only [State.modTile, ht, Option.map_some]
    exact .touch ht ⟨rfl, rfl, rfl, rfl, rfl⟩ (.inl rfl)
  · exact hzone

theorem heatStep_moves (s : State) : Moves s (heatStep s) := by
  unfold heatStep
  split
  · exact .refl
  · next st _ =>
    exact (moves_of_sight (s := s) (t := { s with lamp := { s.lamp with
      heat := nextHeat s.lamp.heat st.decay s.heatInput } }) rfl).trans (judgeZone_moves _)

theorem heatTick_moves (s : State) : Moves s (heatTick s) := by
  unfold heatTick
  split
  · exact .refl
  have htick : Moves s s.msTick := moves_of_sight (msTick_sight s)
  simp only []
  split
  · have hdraw : Moves s (s.msTick.draw 1) := htick.sight (draw_sight _ 1)
    split
    · exact Moves.sight (hdraw.trans (heatStep_moves _)) (idleTimerExpiry_sight _)
    · exact (hdraw.sight (idleTimerExpiry_sight _)).trans (heatStep_moves _)
  · exact htick.trans (heatStep_moves _)

/-! ### STATION (9.5) -/

theorem completeFilters_moves (s : State) : Moves s s.completeFilters := by
  refine (moves_of_sight (draw_sight s _)).trans (foldl_moves _ (fun u c => ?_) _ _)
  exact (lineEvent_moves c u).sight (refresh_sight _)

theorem newRing_sight (s : State) (st : Station) : (s.newRing st).sight = s.sight := rfl

theorem lampStation_moves (s : State) (st : Station) : Moves s (s.lampStation st) :=
  (moves_of_sight (s := s) (t := { s with lamp := { s.lamp with
    period := if s.lamp.on then s.lamp.period else st.pwmPeriod, idleTimer := 0 } }) rfl).trans (judgeZone_moves _)

theorem acceptStation_moves (s : State) (st : Station) (h : ∀ p : SlotNo, s.asm.plates[p] = none) :
    Moves s (s.acceptStation st) := by
  have hunwatch : Moves s { s with stage := { s.stage with watched := none } } := .single (.unwatch h)
  have htake : Moves s { s with
      plan := { s.plan with station := some st }
      clock := { s.clock with us := 0, ms := 0, lampDiv := 0 }
      stage := { s.stage with watched := none }
      seq := { s.seq with captureHeld := s.port.held.any (·.req.master == st.captureMaster) } } := hunwatch.sight rfl
  have hring := (htake.sight (newRing_sight _ st)).sight (restartDwell_sight _)
  exact (hring.trans (lampStation_moves _ st)).trans (completeFilters_moves _)

theorem stationRecord_moves (s : State) : Moves s (stationRecord s) := by
  unfold stationRecord
  split
  · exact .refl
  simp only []
  split
  · exact (result_alike s _ _ _).moves
  split
  · exact (result_alike s _ _ _).moves
  split
  · exact (result_alike s _ _ _).moves
  next hidle =>
  refine (acceptStation_moves s _ fun p => ?_).alike (result_alike _ _ _ _)
  simp only [State.idleForStation, Bool.not_eq_true', Bool.not_eq_false, Bool.and_eq_true, List.all_eq_true] at hidle
  obtain ⟨hfree, -⟩ := hidle
  simpa using hfree s.asm.plates[p] (by simp)

/-! ### The step -/

theorem effect_moves (c : Instr) (s : State) : Moves s (effect c s) := by
  cases c with
  | powerOnReset lines straps => exact .single (.reset lines straps)
  | upstreamRequestFault r =>
    cases r with
    | read r => exact (presentRead_alike s r).moves
    | write w => exact presentWrite_moves s w
  | post w => exact presentWrite_moves s w
  | withdrawal w => exact presentWrite_moves s w
  | consume w => exact presentWrite_moves s w
  | capture w => exact presentWrite_moves s w
  | heldWrite w => exact presentWrite_moves s w
  | heldRead r => exact (presentRead_alike s r).moves
  | plainWrite w => exact presentWrite_moves s w
  | plainRead r => exact (presentRead_alike s r).moves
  | heldWriteEntry => exact heldWriteEntry_moves s
  | arbiterGrant => exact (arbiterGrant_alike s).moves
  | drainRetireOk => exact drainResponds_moves s .ok
  | drainRetireFault => exact drainResponds_moves s .fault
  | upstreamReadResponse m st data => exact moves_of_sight (readResponds_sight s m st data)
  | fetchResponse st data => exact (fetchResponds_alike s st data).moves
  | unmatchedResponse id st data => exact responds_moves s id st data
  | station => exact stationRecord_moves s
  | plate => exact plateRecord_moves s
  | retake => exact retakeRecord_moves s
  | dismiss => exact (dismissRecord_alike s).moves
  | dismissReservation => exact dismissReservation_moves s
  | resultWordEntry => exact (resultWordEntry_alike s).moves
  | recordLineEntry => exact (recordLineEntry_alike s).moves
  | headerLineEntry => exact (headerLineEntry_alike s).moves
  | arming => exact arming_moves s
  | periodEnd => exact periodEnd_moves s
  | settleExpiry => exact settleExpiry_moves s
  | triggerPulseEnd => exact (triggerPulseEnd_alike s).moves
  | deferredTrigger => exact deferredTrigger_moves s
  | exposureTimerExpiry => exact exposureTimerExpiry_moves s
  | holdTimerExpiry m => exact (holdTimerExpiry_alike s m).moves
  | validTransition ax line => exact validTransition_moves s ax line
  | invalidTransition ax => exact invalidTransition_moves s ax
  | homeEdge ax => exact homeEdge_moves s ax
  | dwellExpiry => exact moves_of_sight (dwellExpiry_sight s)
  | cutRise => exact cutRise_moves s
  | cutFall => exact (cutFall_alike s).moves
  | idleTimerExpiry => exact moves_of_sight (idleTimerExpiry_sight s)
  | heatTick => exact heatTick_moves s
  | fallingHomeEdge ax => exact moves_of_sight (fallingHomeEdge_sight s ax)

/-- A running timer that counts is a running timer, a stopped one stays stopped. -/
theorem usTick_alike (s : State) : Alike s s.usTick := by
  refine { Alike.refl s with resting := fun _ h => ?_, trig := fun h => ?_, takes := fun h => ⟨h.fetches, h.waiting⟩ }
  · obtain ⟨hsettle, hdeferred, hexp, hframe, hcarrier⟩ := h
    exact ⟨by simp [State.usTick, hsettle], hdeferred, by simp [State.usTick, hexp], hframe, hcarrier⟩
  · simpa [State.usTick] using h

theorem lampTick_sight (s : State) : s.lampTick.sight = s.sight := by
  unfold State.lampTick
  split <;> rfl

theorem countClk_sight (s : State) (k : Ticks) : (s.countClk k).sight = s.sight := by
  unfold State.countClk
  split <;> rfl

theorem advance_alike (k : Ticks) (s : State) : Alike s (s.advance k) := by
  have hstage : (s.countClk k).stage = s.stage := by
    unfold State.countClk
    split <;> rfl
  have hsample : ({ s.countClk k with stage := s.stage.sample s.rawLines } : State).sight = s.sight :=
    (withStage_sight _ (congrArg Stage.watched hstage).symm).trans (countClk_sight s k)
  let a := State.draw 1 { s.countClk k with stage := s.stage.sample s.rawLines }
  let b := if k.us then a.usTick else a
  let c := if k.ms then b.msTick else b
  have ha : Alike s a := alike_of_sight ((draw_sight _ 1).trans hsample)
  have hb : Alike a b := by
    simp only [b]
    split
    · exact usTick_alike a
    · exact .refl a
  have hc : c.sight = b.sight := by
    simp only [c]
    split
    · exact msTick_sight b
    · rfl
  have hd : (if k.lamp then c.lampTick else c).sight = c.sight := by
    split
    · exact lampTick_sight c
    · rfl
  exact (ha.trans hb).trans (alike_of_sight (hd.trans hc))

/-- Every step of the part is a chain of moves. -/
theorem step_moves {s t : State} (h : step s = .next t) : Moves s t :=
  step_keeps (Moves s) (fun _ _ hs => hs.sight rfl) (fun k _ hs => hs.alike (advance_alike k _))
    (fun n _ hs => hs.sight (draw_sight _ n)) (fun c u hs => Moves.sight (hs.trans (effect_moves c u)) (refresh_sight _))
    (fun u hs => Moves.sight (hs.trans (heatStep_moves u)) (refresh_sight _)) (fun _ hs => hs.sight (refresh_sight _))
    (fun _ hs => hs.sight (conclude_sight _)) s t .refl h

end Sys2Proof.Machine
end

section
/-! PROOFS. The law of the tables and the exposure path (O56): its parts, and each kind of move. -/

namespace Sys2Proof.Machine

/-! ### The parts of the law -/

/-- Plates and tiles belong together (R1, R27). -/
structure Placed (s : State) : Prop where
  listed : ∀ (p : SlotNo) plate, s.asm.plates[p] = some plate → ∀ (i : Nat) (t : TileNo), plate.tiles[i]? = some t →
    ∃ tile, s.asm.tiles[t] = some tile ∧ tile.slot = p ∧ tile.index = i
      ∧ tile.row = i / plate.geo.cols ∧ tile.col = i % plate.geo.cols
  owned : ∀ (t : TileNo) tile, s.asm.tiles[t] = some tile →
    ∃ plate, s.asm.plates[tile.slot] = some plate ∧ plate.tiles[tile.index]? = some t
  sized : ∀ (p : SlotNo) plate, s.asm.plates[p] = some plate →
    plate.tiles.length = plate.geo.tiles ∧ 0 < plate.geo.cols

/-- A plate's counts and state stand as its tiles do (Tables 2-1, 2-2). -/
structure PlateCounted (s : State) (plate : Plate) : Prop where
  done : plate.tilesDone = s.countDone plate.tiles
  failed : plate.tilesFailed = s.countFailed plate.tiles
  assembling : plate.state = .assembling → plate.tilesDone + plate.tilesFailed < plate.geo.tiles
  complete : plate.state = .complete → plate.tilesDone + plate.tilesFailed = plate.geo.tiles

def Counted (s : State) : Prop := ∀ (p : SlotNo) plate, s.asm.plates[p] = some plate → PlateCounted s plate

/-- The exposure path (R50, R51, R61, R143). -/
structure PathLaw (s : State) : Prop where
  active : ∀ t : TileNo, s.tileIs Tile.active t = true ↔ s.seq.current = some t
  busy : ∀ (t : TileNo) tile plate, s.asm.tiles[t] = some tile → tile.active = true →
    s.asm.plates[tile.slot] = some plate → plate.state = .assembling
  moveok : s.seq.moveok = true ↔ s.seq.current = none
  watched : s.stage.watched.isSome = s.seq.current.isSome
  idle : s.seq.current = none → s.Resting
  trig : s.seq.trig = s.seq.pulseTimer.isSome

theorem assemblyLaw_iff (s : State) : AssemblyLaw s ↔ Placed s ∧ Counted s ∧ PathLaw s ∧ TakeLaw s := by
  constructor
  · intro law
    exact ⟨⟨law.listed, law.owned, law.sized⟩,
      fun p plate hp => ⟨(law.counts p plate hp).1, (law.counts p plate hp).2, law.assembling p plate hp,
        law.complete p plate hp⟩,
      ⟨law.active, law.busy, law.moveok, law.watched, law.idle, law.trig⟩, ⟨law.fetches, law.waiting⟩⟩
  · rintro ⟨placed, counted, path, take⟩
    exact
      { listed := placed.listed, owned := placed.owned, sized := placed.sized
        counts := fun p plate hp => ⟨(counted p plate hp).done, (counted p plate hp).failed⟩
        assembling := fun p plate hp => (counted p plate hp).assembling
        complete := fun p plate hp => (counted p plate hp).complete
        active := path.active, busy := path.busy, moveok := path.moveok, watched := path.watched, idle := path.idle
        trig := path.trig, fetches := take.fetches, waiting := take.waiting }

/-! ### Sums over tiles -/

/-- Two functions that differ on part of a list alone have sums that differ there alone. -/
theorem sum_map_changed {α : Type} [DecidableEq α] {L l : List α} (hL : L.Nodup) (hl : l.Nodup)
    (hsub : ∀ x ∈ l, x ∈ L) {f g : α → Nat} (h : ∀ x ∈ L, x ∉ l → g x = f x) :
    (L.map g).sum + (l.map f).sum = (L.map f).sum + (l.map g).sum := by
  let rest := L.filter fun x => decide (x ∉ l)
  have hperm : L.Perm (l ++ rest) := by
    refine (List.perm_ext_iff_of_nodup hL ?_).2 fun x => ?_
    · refine List.nodup_append'.2 ⟨hl, hL.filter _, fun x hx hr => ?_⟩
      simp [rest, hx] at hr
    · by_cases hx : x ∈ l <;> simp [rest, hx, hsub]
  have hrest : rest.map g = rest.map f := List.map_congr_left fun x hx => by
    obtain ⟨hxL, hxl⟩ := List.mem_filter.1 hx
    exact h x hxL (by simpa using hxl)
  rw [(hperm.map g).sum_nat, (hperm.map f).sum_nat]
  simp only [List.map_append, List.sum_append, hrest]
  omega

theorem length_filter_eq_sum {α : Type} (p : α → Bool) (l : List α) :
    (l.filter p).length = (l.map fun x => (p x).toNat).sum := by
  induction l with
  | nil => rfl
  | cons x l ih => cases hx : p x <;> simp [hx, ih, Nat.add_comm]

/-- Of a list without repetition, a test that changes at one element counts that one more or less. -/
theorem length_filter_changed {α : Type} [DecidableEq α] {l : List α} (hl : l.Nodup) {x : α} (hx : x ∈ l)
    {p q : α → Bool} (h : ∀ y, y ≠ x → q y = p y) :
    (l.filter q).length + (p x).toNat = (l.filter p).length + (q x).toNat := by
  have hsum := sum_map_changed hl (List.nodup_singleton x) (by simpa using hx) (f := fun y => (p y).toNat)
    (g := fun y => (q y).toNat) fun y _ hy => by rw [h y (by simpa using hy)]
  simpa [length_filter_eq_sum] using hsum

/-! ### Counts -/

/-- Whether a tile is DONE, and whether it is FAILED. -/
def Tile.ends (t : Tile) : Bool × Bool := (t.state == .done, t.final && !(t.state == .done))

/-- The final states of a tile entry, in the tables of a state. -/
def State.endsAt (s : State) (x : TileNo) : Option (Bool × Bool) := s.asm.tiles[x].map Tile.ends

theorem tileIs_done (s : State) (x : TileNo) : s.tileIs (·.state == .done) x = (s.endsAt x).any (·.1) := by
  simp only [State.tileIs, State.endsAt, Option.any_map]
  rfl

theorem tileIs_failed (s : State) (x : TileNo) :
    s.tileIs (fun y => y.final && !(y.state == .done)) x = (s.endsAt x).any (·.2) := by
  simp only [State.tileIs, State.endsAt, Option.any_map]
  rfl

theorem PlateCounted.congr {s t : State} {a b : Plate} (law : PlateCounted s a)
    (hends : ∀ x ∈ a.tiles, t.endsAt x = s.endsAt x) (htiles : b.tiles = a.tiles) (hgeo : b.geo = a.geo)
    (hdone : b.tilesDone = a.tilesDone) (hfailed : b.tilesFailed = a.tilesFailed)
    (hstate : b.state = a.state ∨ ∃ d f, b.state = .dismissing d f) : PlateCounted t b := by
  have hcd : t.countDone a.tiles = s.countDone a.tiles := by
    exact congrArg List.length (List.filter_congr fun x hx => by rw [tileIs_done, tileIs_done, hends x hx])
  have hcf : t.countFailed a.tiles = s.countFailed a.tiles := by
    exact congrArg List.length (List.filter_congr fun x hx => by rw [tileIs_failed, tileIs_failed, hends x hx])
  refine ⟨?_, ?_, fun h => ?_, fun h => ?_⟩
  · rw [hdone, htiles, hcd, law.done]
  · rw [hfailed, htiles, hcf, law.failed]
  · rcases hstate with hs | ⟨d, f, hs⟩
    · rw [hdone, hfailed, hgeo]
      exact law.assembling (hs.symm.trans h)
    · rw [hs] at h
      cases h
  · rcases hstate with hs | ⟨d, f, hs⟩
    · rw [hdone, hfailed, hgeo]
      exact law.complete (hs.symm.trans h)
    · rw [hs] at h
      cases h

/-- The counts after one tile of a list has changed. -/
theorem counts_changed {s t : State} {l : List TileNo} (hl : l.Nodup) {x : TileNo} (hx : x ∈ l)
    (h : ∀ y, y ≠ x → t.asm.tiles[y] = s.asm.tiles[y]) :
    t.countDone l + ((s.endsAt x).any (·.1)).toNat = s.countDone l + ((t.endsAt x).any (·.1)).toNat
      ∧ t.countFailed l + ((s.endsAt x).any (·.2)).toNat = s.countFailed l + ((t.endsAt x).any (·.2)).toNat := by
  have hends : ∀ y, y ≠ x → t.endsAt y = s.endsAt y := fun y hy => congrArg (Option.map Tile.ends) (h y hy)
  constructor
  · rw [← tileIs_done, ← tileIs_done]
    exact length_filter_changed hl hx fun y hy => by rw [tileIs_done, tileIs_done, hends y hy]
  · rw [← tileIs_failed, ← tileIs_failed]
    exact length_filter_changed hl hx fun y hy => by rw [tileIs_failed, tileIs_failed, hends y hy]

/-- DONE and FAILED together are the final tiles. -/
theorem countDone_add_countFailed (s : State) (l : List TileNo) :
    s.countDone l + s.countFailed l = (l.filter (s.tileIs Tile.final)).length := by
  have hfinal : ∀ tile : Tile,
      (tile.state == .done).toNat + (tile.final && !(tile.state == .done)).toNat = tile.final.toNat := by
    intro tile
    unfold Tile.final
    cases tile.state <;> rfl
  have hone : ∀ x, (s.tileIs (·.state == .done) x).toNat
      + (s.tileIs (fun y => y.final && !(y.state == .done)) x).toNat = (s.tileIs Tile.final x).toNat := by
    intro x
    unfold State.tileIs
    cases s.asm.tiles[x] with
    | none => rfl
    | some tile => exact hfinal tile
  simp only [State.countDone, State.countFailed, length_filter_eq_sum, ← List.sum_map_add, hone]

/-- A plate whose counts make up all its tiles has only final tiles. -/
theorem all_final_of_counts {s : State} {plate : Plate} (law : PlateCounted s plate)
    (hsize : plate.tiles.length = plate.geo.tiles) (h : plate.tilesDone + plate.tilesFailed = plate.geo.tiles) :
    ∀ x ∈ plate.tiles, s.tileIs Tile.final x = true := by
  rw [law.done, law.failed, countDone_add_countFailed, ← hsize] at h
  exact List.length_filter_eq_length_iff.1 h

/-! ### Tables of one shape -/

/-- The part of a plate, and of a tile, that places it. -/
def Plate.shape (p : Plate) : List TileNo × Geometry := (p.tiles, p.geo)
def Tile.place (t : Tile) : SlotNo × Nat × Nat × Nat := (t.slot, t.index, t.row, t.col)

/-- The tables hold the same plates with the same tiles, in other states. -/
structure Reshaped (s t : State) : Prop where
  plates : ∀ p : SlotNo, t.asm.plates[p].map Plate.shape = s.asm.plates[p].map Plate.shape
  tiles : ∀ x : TileNo, t.asm.tiles[x].map Tile.place = s.asm.tiles[x].map Tile.place

theorem exists_of_map_eq {α β : Type} {f : α → β} {a b : Option α} {x : α} (h : b.map f = a.map f) (hb : b = some x) :
    ∃ y, a = some y ∧ f x = f y := by
  subst hb
  obtain ⟨y, hy, hf⟩ := Option.map_eq_some_iff.1 h.symm
  exact ⟨y, hy, hf.symm⟩

theorem Reshaped.placed {s t : State} (h : Reshaped s t) (law : Placed s) : Placed t where
  listed p plate hp i x hx := by
    obtain ⟨pl, hpl, hshape⟩ := exists_of_map_eq (h.plates p) hp
    simp only [Plate.shape, Prod.mk.injEq] at hshape
    obtain ⟨htiles, hgeo⟩ := hshape
    obtain ⟨tile, ht, hslot, hindex, hrow, hcol⟩ := law.listed p pl hpl i x (htiles ▸ hx)
    obtain ⟨next, hnext, hplace⟩ := exists_of_map_eq (h.tiles x).symm ht
    simp only [Tile.place, Prod.mk.injEq] at hplace
    obtain ⟨hs, hi, hr, hc⟩ := hplace
    exact ⟨next, hnext, hs ▸ hslot, hi ▸ hindex, by rw [← hr, hrow, hgeo], by rw [← hc, hcol, hgeo]⟩
  owned x next hx := by
    obtain ⟨tile, ht, hplace⟩ := exists_of_map_eq (h.tiles x) hx
    simp only [Tile.place, Prod.mk.injEq] at hplace
    obtain ⟨hs, hi, -, -⟩ := hplace
    obtain ⟨pl, hpl, hmem⟩ := law.owned x tile ht
    simp only [hs, hi]
    obtain ⟨plate, hplate, hshape⟩ := exists_of_map_eq (h.plates tile.slot).symm hpl
    have htiles : pl.tiles = plate.tiles := congrArg Prod.fst hshape
    exact ⟨plate, hplate, htiles ▸ hmem⟩
  sized p plate hp := by
    obtain ⟨pl, hpl, hshape⟩ := exists_of_map_eq (h.plates p) hp
    simp only [Plate.shape, Prod.mk.injEq] at hshape
    obtain ⟨htiles, hgeo⟩ := hshape
    rw [htiles, hgeo]
    exact law.sized p pl hpl

/-! ### The take -/

/-- What a take waits for stays while its plate stays ASSEMBLING or COMPLETE. -/
theorem TakeLaw.keeps {s t : State} (law : TakeLaw s) (hplan : t.plan = s.plan) (hdown : t.down = s.down)
    (h : ∀ (p : SlotNo) plate, s.asm.plates[p] = some plate → plate.state = .assembling ∨ plate.state = .complete →
      ∃ next, t.asm.plates[p] = some next ∧ (next.state = .assembling ∨ next.state = .complete)) : TakeLaw t where
  fetches k hk hs := by
    rw [hdown]
    exact law.fetches k (hplan ▸ hk) hs
  waiting k hk hs := by
    obtain ⟨p, plate, hf, hp, hstate⟩ := law.waiting k (hplan ▸ hk) hs
    obtain ⟨next, hnext, hlive⟩ := h p plate hp hstate
    exact ⟨p, next, hf, hnext, hlive⟩

/-! ### The exposure path -/

/-- The sequencer, the frame and the watched target stand as they did. -/
structure SamePath (s t : State) : Prop where
  seq : t.seq = s.seq
  merge : t.merge = s.merge
  stage : t.stage = s.stage

theorem SamePath.trans {s t u : State} (h : SamePath s t) (g : SamePath t u) : SamePath s u :=
  ⟨g.seq.trans h.seq, g.merge.trans h.merge, g.stage.trans h.stage⟩

/-- An active tile's plate is ASSEMBLING, unless it is DISMISSING: a COMPLETE plate has only final tiles. -/
theorem busy_of_counted {s : State} (placed : Placed s) (counted : Counted s)
    (h : ∀ (x : TileNo) tile plate, s.asm.tiles[x] = some tile → tile.active = true →
      s.asm.plates[tile.slot] = some plate → ∀ d f, plate.state ≠ .dismissing d f) :
    ∀ (x : TileNo) tile plate, s.asm.tiles[x] = some tile → tile.active = true →
      s.asm.plates[tile.slot] = some plate → plate.state = .assembling := by
  intro x tile plate ht ha hp
  cases hs : plate.state with
  | assembling => rfl
  | dismissing d f => exact absurd hs (h x tile plate ht ha hp d f)
  | complete =>
    obtain ⟨pl, hpl, hmem⟩ := placed.owned x tile ht
    rw [hp] at hpl
    cases hpl
    obtain ⟨hsize, -⟩ := placed.sized _ plate hp
    have hfinal := all_final_of_counts (counted _ plate hp) hsize ((counted _ plate hp).complete hs) x
      (List.mem_of_getElem? hmem)
    simp only [State.tileIs, ht, Option.any_some, Tile.final, Tile.active] at hfinal ha
    cases hstate : tile.state <;> simp [hstate] at hfinal ha

/-- With the sequencer as it was and the same tiles active, only the plates of active tiles are asked for. -/
theorem PathLaw.keeps {s t : State} (law : PathLaw s) (same : SamePath s t)
    (hactive : ∀ x : TileNo, t.tileIs Tile.active x = s.tileIs Tile.active x)
    (hbusy : ∀ (x : TileNo) tile plate, t.asm.tiles[x] = some tile → tile.active = true →
      t.asm.plates[tile.slot] = some plate → plate.state = .assembling) : PathLaw t := by
  obtain ⟨hseq, hmerge, hstage⟩ := same
  refine ⟨fun x => ?_, hbusy, ?_, ?_, fun h => ?_, ?_⟩
  · rw [hactive, hseq]
    exact law.active x
  · rw [hseq]
    exact law.moveok
  · rw [hseq, hstage]
    exact law.watched
  · unfold State.Resting
    rw [hseq, hmerge]
    exact law.idle (hseq ▸ h)
  · rw [hseq]
    exact law.trig

/-- A sequencer that has returned to IDLE, with no tile active (R50, R51, R65). -/
theorem pathLaw_of_left {s t : State} (law : PathLaw s) (left : SamePath s.leave t)
    (hactive : ∀ x : TileNo, t.tileIs Tile.active x = false) : PathLaw t := by
  obtain ⟨hseq, hmerge, hstage⟩ := left
  refine ⟨fun x => ?_, fun x tile plate ht ha => ?_, ?_, ?_, fun _ => ?_, ?_⟩
  · simp [hactive, hseq]
  · have hx := hactive x
    simp [State.tileIs, ht, ha] at hx
  · simp [hseq]
  · simp [hseq, hstage]
  · simp [State.Resting, hseq, hmerge]
  · rw [hseq]
    exact law.trig

/-! ### One tile changes -/

/-- One tile changes its state, the plates stay. -/
structure OneTile (s t : State) (x : TileNo) (tile next : Tile) : Prop where
  before : s.asm.tiles[x] = some tile
  plates : t.asm.plates = s.asm.plates
  tiles : t.asm.tiles = s.asm.tiles.set x (some next)
  place : next.place = tile.place

section
variable {s t : State} {x : TileNo} {tile next : Tile}

theorem OneTile.at (h : OneTile s t x tile next) (y : TileNo) :
    t.asm.tiles[y] = if y = x then some next else s.asm.tiles[y] := by
  rw [h.tiles]
  exact getElem_set_fin s.asm.tiles x y _

theorem OneTile.placed (h : OneTile s t x tile next) (law : Placed s) : Placed t := by
  refine Reshaped.placed ⟨fun p => by rw [h.plates], fun y => ?_⟩ law
  rw [h.at]
  split
  · next hy => rw [hy, h.before, Option.map_some, Option.map_some, h.place]
  · rfl

theorem OneTile.counted (h : OneTile s t x tile next) (hends : next.ends = tile.ends) (law : Counted s) : Counted t := by
  intro p plate hp
  rw [h.plates] at hp
  refine (law p plate hp).congr (fun y _ => ?_) rfl rfl rfl rfl (.inl rfl)
  unfold State.endsAt
  rw [h.at]
  split
  · next hy => rw [hy, h.before, Option.map_some, Option.map_some, hends]
  · rfl

theorem OneTile.take (h : OneTile s t x tile next) (hplan : t.plan = s.plan) (hdown : t.down = s.down)
    (law : TakeLaw s) : TakeLaw t :=
  law.keeps hplan hdown fun p plate hp hs => ⟨plate, by rwa [h.plates], hs⟩

theorem OneTile.active (h : OneTile s t x tile next) (y : TileNo) :
    t.tileIs Tile.active y = if y = x then next.active else s.tileIs Tile.active y := by
  unfold State.tileIs
  rw [h.at]
  split <;> rfl

/-- A tile that stays active, or stays inactive, leaves the exposure path as it is. -/
theorem OneTile.path (h : OneTile s t x tile next) (same : SamePath s t) (hactive : next.active = tile.active)
    (law : PathLaw s) : PathLaw t := by
  have hall : ∀ y : TileNo, t.tileIs Tile.active y = s.tileIs Tile.active y := fun y => by
    rw [h.active]
    split
    · next hy => rw [hy, hactive, State.tileIs, h.before, Option.any_some]
    · rfl
  refine law.keeps same hall fun y tile' plate ht ha hp => ?_
  rw [h.plates] at hp
  rw [h.at] at ht
  split at ht
  · cases ht
    have hslot : next.slot = tile.slot := congrArg Prod.fst h.place
    simp only [hslot] at hp
    exact law.busy x tile plate h.before (hactive ▸ ha) hp
  · exact law.busy y tile' plate ht ha hp

/-- The current tile leaves the exposure path. -/
theorem OneTile.left (h : OneTile s t x tile next) (left : SamePath s.leave t) (hc : s.seq.current = some x)
    (hactive : next.active = false) (law : PathLaw s) : PathLaw t := by
  refine pathLaw_of_left law left fun y => ?_
  rw [h.active]
  split
  · exact hactive
  · next hy =>
    refine Bool.eq_false_iff.2 fun ha => hy ?_
    rw [law.active y, hc] at ha
    exact (Option.some.inj ha).symm

end

theorem active_ends {tile : Tile} (h : tile.active = true) : tile.ends = (false, false) := by
  unfold Tile.active at h
  unfold Tile.ends Tile.final
  cases hs : tile.state <;> simp [hs] at h ⊢

theorem ends_of_state {a b : Tile} (h : b.state = a.state) : b.ends = a.ends ∧ b.active = a.active := by
  unfold Tile.ends Tile.final Tile.active
  rw [h]
  exact ⟨rfl, rfl⟩

theorem SamePlace.place {a b : Tile} (h : SamePlace a b) : b.place = a.place := by
  simp only [Tile.place, h.slot, h.index, h.row, h.col]

end Sys2Proof.Machine
end

section
/-! PROOFS. The law of the tables and the exposure path (O56) when a tile and its plate change, when a fence is delivered and
when a plate becomes FREE. -/

namespace Sys2Proof.Machine

/-! ### A tile and its plate change -/

/-- One tile and its own plate change, in state alone. -/
structure TileAndPlate (s t : State) (x : TileNo) (tile next : Tile) (plate changed : Plate) : Prop where
  before : s.asm.tiles[x] = some tile
  owner : s.asm.plates[tile.slot] = some plate
  plates : t.asm.plates = s.asm.plates.set tile.slot (some changed)
  tiles : t.asm.tiles = s.asm.tiles.set x (some next)
  place : next.place = tile.place
  shape : changed.shape = plate.shape

section
variable {s t : State} {x : TileNo} {tile next : Tile} {plate changed : Plate}

theorem TileAndPlate.tileAt (h : TileAndPlate s t x tile next plate changed) (y : TileNo) :
    t.asm.tiles[y] = if y = x then some next else s.asm.tiles[y] := by
  rw [h.tiles]
  exact getElem_set_fin s.asm.tiles x y _

theorem TileAndPlate.plateAt (h : TileAndPlate s t x tile next plate changed) (p : SlotNo) :
    t.asm.plates[p] = if p = tile.slot then some changed else s.asm.plates[p] := by
  rw [h.plates]
  exact getElem_set_fin s.asm.plates tile.slot p _

theorem TileAndPlate.placed (h : TileAndPlate s t x tile next plate changed) (law : Placed s) : Placed t := by
  refine Reshaped.placed ⟨fun p => ?_, fun y => ?_⟩ law
  · rw [h.plateAt]
    split
    · next hp => rw [hp, h.owner, Option.map_some, Option.map_some, h.shape]
    · rfl
  · rw [h.tileAt]
    split
    · next hy => rw [hy, h.before, Option.map_some, Option.map_some, h.place]
    · rfl

/-- Only the plate of the tile has counts to check. -/
theorem TileAndPlate.counted (h : TileAndPlate s t x tile next plate changed) (law : AssemblyLaw s)
    (hplate : PlateCounted t changed) : Counted t := by
  intro p pl hp
  rw [h.plateAt] at hp
  split at hp
  · cases hp
    exact hplate
  · next hne =>
    obtain ⟨-, counted, -⟩ := (assemblyLaw_iff s).1 law
    refine (counted p pl hp).congr (fun y hy => ?_) rfl rfl rfl rfl (.inl rfl)
    have hyx : y ≠ x := by
      rintro rfl
      obtain ⟨other, ho, hslot⟩ := (mem_tiles_iff law hp y).1 hy
      rw [h.before] at ho
      cases ho
      exact hne hslot.symm
    unfold State.endsAt
    rw [h.tileAt, if_neg hyx]

/-- The counts of the tile's plate, before and after. -/
theorem TileAndPlate.counts (h : TileAndPlate s t x tile next plate changed) (law : AssemblyLaw s) :
    t.countDone plate.tiles + tile.ends.1.toNat = s.countDone plate.tiles + next.ends.1.toNat
      ∧ t.countFailed plate.tiles + tile.ends.2.toNat = s.countFailed plate.tiles + next.ends.2.toNat := by
  have hmem : x ∈ plate.tiles := (mem_tiles_iff law h.owner x).2 ⟨tile, h.before, rfl⟩
  have hchanged := counts_changed (s := s) (t := t) (tiles_nodup law h.owner) hmem fun y hy => by rw [h.tileAt, if_neg hy]
  have hbefore : s.endsAt x = some tile.ends := congrArg (Option.map Tile.ends) h.before
  have hafter : t.endsAt x = some next.ends := congrArg (Option.map Tile.ends) ((h.tileAt x).trans (if_pos rfl))
  rwa [hbefore, hafter] at hchanged

/-- A tile that is off the exposure path before and after leaves the path as it is. -/
theorem TileAndPlate.path (h : TileAndPlate s t x tile next plate changed) (same : SamePath s t)
    (hbefore : tile.active = false) (hafter : next.active = false) (placed : Placed t) (counted : Counted t)
    (hstate : ∀ d f, changed.state = .dismissing d f → plate.state ≠ .assembling) (law : PathLaw s) : PathLaw t := by
  have hactive : ∀ y : TileNo, t.tileIs Tile.active y = s.tileIs Tile.active y := fun y => by
    unfold State.tileIs
    rw [h.tileAt]
    split
    · next hy => rw [hy, h.before, Option.any_some, Option.any_some, hbefore, hafter]
    · rfl
  refine law.keeps same hactive (busy_of_counted placed counted fun y tile' pl ht ha hp d f hd => ?_)
  rw [h.tileAt] at ht
  split at ht
  · cases ht
    rw [hafter] at ha
    cases ha
  rw [h.plateAt] at hp
  split at hp
  · next hslot =>
    cases hp
    have howner : s.asm.plates[tile'.slot] = some plate := by
      simp only [hslot]
      exact h.owner
    exact hstate d f hd (law.busy y tile' plate ht ha howner)
  · have hs := law.busy y tile' pl ht ha hp
    rw [hd] at hs
    cases hs

theorem TileAndPlate.take (h : TileAndPlate s t x tile next plate changed) (hplan : t.plan = s.plan)
    (hdown : t.down = s.down)
    (hlive : plate.state = .assembling ∨ plate.state = .complete → changed.state = .assembling ∨ changed.state = .complete)
    (law : TakeLaw s) : TakeLaw t := by
  refine law.keeps hplan hdown fun p pl hp hs => ?_
  rw [h.plateAt]
  by_cases hslot : p = tile.slot
  · subst hslot
    rw [h.owner] at hp
    cases hp
    exact ⟨changed, if_pos rfl, hlive hs⟩
  · exact ⟨pl, (if_neg hslot).trans hp, hs⟩

end

/-! ### Fence delivery (R32 to R34) -/

theorem closing_active {tile : Tile} {o : ClosingOutcome} {heat : Option Nat} (h : tile.state = .closing o heat) :
    tile.active = false ∧ tile.ends = (false, false) := by
  simp [Tile.active, Tile.ends, Tile.final, h]

/-- The counts of the plate of a tile that ends (R32, R33, R37). -/
theorem ended_counted {s t : State} {x : TileNo} {tile : Tile} {plate : Plate} {o : ClosingOutcome} {heat : Option Nat}
    {banded : Bool} (hs : tile.state = .closing o heat)
    (h : TileAndPlate s t x tile { tile with state := tile.finalFrom o, reservation := 0 } plate
      (plate.ended (tile.finalFrom o) tile.row banded)) (law : AssemblyLaw s) :
    PlateCounted t (plate.ended (tile.finalFrom o) tile.row banded) := by
  obtain ⟨-, hends⟩ := closing_active hs
  obtain ⟨hdone, hfailed⟩ := h.counts law
  obtain ⟨placed, counted, -⟩ := (assemblyLaw_iff s).1 law
  have hp := counted tile.slot plate h.owner
  obtain ⟨hsize, -⟩ := placed.sized tile.slot plate h.owner
  have hnotcomplete : plate.state ≠ .complete := fun hc => by
    have hmem : x ∈ plate.tiles := (mem_tiles_iff law h.owner x).2 ⟨tile, h.before, rfl⟩
    have hfinal := all_final_of_counts hp hsize (hp.complete hc) x hmem
    simp [State.tileIs, h.before, Tile.final, hs] at hfinal
  have hnext : ∀ f : TileState, f = .done ∨ (∃ r, f = .failed r) →
      Tile.ends { tile with state := f, reservation := 0 } = (decide (f = .done), !decide (f = .done)) := by
    rintro f (rfl | ⟨r, rfl⟩) <;> rfl
  rw [hends, hnext _ (finalFrom_final tile o)] at hdone hfailed
  have hall : (plate.countFinal (tile.finalFrom o)).allFinal = true ↔ plate.state = .assembling ∧
      (plate.countFinal (tile.finalFrom o)).tilesDone + (plate.countFinal (tile.finalFrom o)).tilesFailed
        = plate.geo.tiles := by
    simp [Plate.allFinal, Plate.countFinal]
  have hcountDone : (plate.countFinal (tile.finalFrom o)).tilesDone = t.countDone plate.tiles := by
    simp only [Plate.countFinal, hp.done]
    split <;> simp_all
  have hcountFailed : (plate.countFinal (tile.finalFrom o)).tilesFailed = t.countFailed plate.tiles := by
    simp only [Plate.countFinal, hp.failed]
    split <;> simp_all
  have hsum : (plate.countFinal (tile.finalFrom o)).tilesDone + (plate.countFinal (tile.finalFrom o)).tilesFailed
      = plate.tilesDone + plate.tilesFailed + 1 := by
    simp only [Plate.countFinal]
    split <;> omega
  refine ⟨hcountDone, hcountFailed, fun ha => ?_, fun hc => ?_⟩
  · simp only [Plate.ended] at ha
    split at ha
    · cases ha
    · next hno =>
      have hlt := hp.assembling ha
      have hne : ¬(plate.countFinal (tile.finalFrom o)).tilesDone
          + (plate.countFinal (tile.finalFrom o)).tilesFailed = plate.geo.tiles := fun heq => hno (hall.2 ⟨ha, heq⟩)
      show (plate.countFinal (tile.finalFrom o)).tilesDone + (plate.countFinal (tile.finalFrom o)).tilesFailed
        < plate.geo.tiles
      omega
  · simp only [Plate.ended] at hc
    split at hc
    · next hyes => exact (hall.1 hyes).2
    · exact absurd hc hnotcomplete

/-- The frame of a delivery for the law. -/
theorem deliverFence_samePath (s : State) (x : TileNo) : SamePath s (s.deliverFence x) := by
  obtain ⟨-, hmerge, hseq, hstage, -⟩ := deliverFence_frame s x
  exact ⟨hseq, hmerge, hstage⟩

/-- R32, R33: a tile ends, and the law stays. -/
theorem deliverFence_ends_law {s : State} {x : TileNo} {tile : Tile} {o : ClosingOutcome} {heat : Option Nat}
    (law : AssemblyLaw s) (ht : s.asm.tiles[x] = some tile) (hs : tile.state = .closing o heat) (ho : o ≠ .discarded) :
    AssemblyLaw (s.deliverFence x) := by
  obtain ⟨plate, hp, -⟩ := law.owned x tile ht
  obtain ⟨hasm, -⟩ := endTile_eq (t := x) (final := tile.finalFrom o)
    (tile.finalRecord plate.tag (heat.getD 0) (tile.finalFrom o)) hp
  rw [← deliverFence_ends ht hs ho hp] at hasm
  have hboth : TileAndPlate s (s.deliverFence x) x tile { tile with state := tile.finalFrom o, reservation := 0 } plate
      (plate.ended (tile.finalFrom o) tile.row _) :=
    ⟨ht, hp, congrArg Assembly.plates hasm, congrArg Assembly.tiles hasm, rfl, rfl⟩
  obtain ⟨placed, -, path, take⟩ := (assemblyLaw_iff s).1 law
  obtain ⟨hactive, -⟩ := closing_active hs
  have hafter : Tile.active { tile with state := tile.finalFrom o, reservation := 0 } = false := by
    rcases finalFrom_final tile o with h | ⟨r, h⟩ <;> simp [Tile.active, h]
  have placed' := hboth.placed placed
  have counted' := hboth.counted law (ended_counted hs hboth law)
  obtain ⟨-, -, -, -, -, hplan, hdown, -⟩ := deliverFence_frame s x
  refine (assemblyLaw_iff _).2 ⟨placed', counted',
    hboth.path (deliverFence_samePath s x) hactive hafter placed' counted' (fun d f hd ha => ?_) path,
    hboth.take hplan hdown (fun hlive => ?_) take⟩
  · simp only [Plate.ended, ha] at hd
    split at hd <;> cases hd
  · simp only [Plate.ended]
    split
    · exact .inr rfl
    · exact hlive

/-! ### A plate and its tiles go (R31, R45, R46, R47) -/

/-- The tables but for one plate and its tiles. -/
structure Outside (s t : State) (p : SlotNo) (plate : Plate) : Prop where
  here : s.asm.plates[p] = some plate
  plates : ∀ q : SlotNo, q ≠ p → t.asm.plates[q] = s.asm.plates[q]
  tiles : ∀ x : TileNo, x ∉ plate.tiles → t.asm.tiles[x] = s.asm.tiles[x]

section
variable {s t : State} {p : SlotNo} {plate : Plate}

/-- The other plates and their tiles stay as they are. -/
theorem Outside.other (h : Outside s t p plate) (law : AssemblyLaw s) {q : SlotNo} {pl : Plate} (hq : q ≠ p)
    (hpl : s.asm.plates[q] = some pl) {x : TileNo} (hx : x ∈ pl.tiles) : t.asm.tiles[x] = s.asm.tiles[x] := by
  refine h.tiles x fun hmem => hq ?_
  obtain ⟨tile, ht, hslot⟩ := (mem_tiles_iff law h.here x).1 hmem
  obtain ⟨tile', ht', hslot'⟩ := (mem_tiles_iff law hpl x).1 hx
  rw [ht] at ht'
  cases ht'
  exact hslot'.symm.trans hslot

theorem Outside.counted (h : Outside s t p plate) (law : AssemblyLaw s)
    (hplate : ∀ pl, t.asm.plates[p] = some pl → PlateCounted t pl) : Counted t := by
  intro q pl hpl
  by_cases hq : q = p
  · subst hq
    exact hplate pl hpl
  · rw [h.plates q hq] at hpl
    obtain ⟨-, counted, -⟩ := (assemblyLaw_iff s).1 law
    refine (counted q pl hpl).congr (fun x hx => ?_) rfl rfl rfl rfl (.inl rfl)
    unfold State.endsAt
    rw [h.other law hq hpl hx]

/-- A FREE plate and its FREE entries leave the others placed. -/
theorem Outside.placed (h : Outside s t p plate) (law : AssemblyLaw s) (hfree : t.asm.plates[p] = none)
    (hgone : ∀ x ∈ plate.tiles, t.asm.tiles[x] = none) : Placed t where
  listed q pl hpl i x hx := by
    have hq : q ≠ p := fun hq => by
      subst hq
      rw [hfree] at hpl
      cases hpl
    rw [h.plates q hq] at hpl
    rw [h.other law hq hpl (List.mem_of_getElem? hx)]
    exact law.listed q pl hpl i x hx
  owned x tile ht := by
    have hx : x ∉ plate.tiles := fun hx => by
      rw [hgone x hx] at ht
      cases ht
    rw [h.tiles x hx] at ht
    obtain ⟨pl, hpl, hmem⟩ := law.owned x tile ht
    have hq : tile.slot ≠ p := fun hq => hx ((mem_tiles_iff law h.here x).2 ⟨tile, ht, hq⟩)
    exact ⟨pl, (h.plates _ hq).trans hpl, hmem⟩
  sized q pl hpl := by
    have hq : q ≠ p := fun hq => by
      subst hq
      rw [hfree] at hpl
      cases hpl
    rw [h.plates q hq] at hpl
    exact law.sized q pl hpl

/-- With no tile of the plate active afterwards, the sequencer stands as it did, or has left a tile of the plate. -/
theorem Outside.path (h : Outside s t p plate) (law : AssemblyLaw s)
    (hactive : ∀ x ∈ plate.tiles, t.tileIs Tile.active x = false) (left : s.HoldsTileOf p → SamePath s.leave t)
    (kept : ¬s.HoldsTileOf p → SamePath s t) : PathLaw t := by
  obtain ⟨-, -, path, -⟩ := (assemblyLaw_iff s).1 law
  have hout : ∀ x : TileNo, x ∉ plate.tiles → t.tileIs Tile.active x = s.tileIs Tile.active x := fun x hx => by
    unfold State.tileIs
    rw [h.tiles x hx]
  by_cases hcur : s.HoldsTileOf p
  · refine pathLaw_of_left path (left hcur) fun x => ?_
    by_cases hx : x ∈ plate.tiles
    · exact hactive x hx
    · obtain ⟨y, tile, hc, hy, hslot⟩ := hcur
      have hmem : y ∈ plate.tiles := (mem_tiles_iff law h.here y).2 ⟨tile, hy, hslot⟩
      rw [hout x hx]
      refine Bool.eq_false_iff.2 fun ha => hx ?_
      rw [path.active x, hc] at ha
      cases ha
      exact hmem
  · refine path.keeps (kept hcur) (fun x => ?_) fun x tile pl ht ha hpl => ?_
    · by_cases hx : x ∈ plate.tiles
      · rw [hactive x hx]
        refine (Bool.eq_false_iff.2 fun ha => hcur ?_).symm
        obtain ⟨tile, ht, hslot⟩ := (mem_tiles_iff law h.here x).1 hx
        exact ⟨x, tile, (path.active x).1 ha, ht, hslot⟩
      · exact hout x hx
    · have hx : x ∉ plate.tiles := fun hx => by
        have := hactive x hx
        simp [State.tileIs, ht, ha] at this
      rw [h.tiles x hx] at ht
      have hq : tile.slot ≠ p := fun hq => hx ((mem_tiles_iff law h.here x).2 ⟨tile, ht, hq⟩)
      rw [h.plates _ hq] at hpl
      exact path.busy x tile pl ht ha hpl

end

/-- The sequencer holds no tile of a plate that is not ASSEMBLING. -/
theorem not_holdsTileOf {s : State} (law : AssemblyLaw s) {p : SlotNo} {plate : Plate}
    (hp : s.asm.plates[p] = some plate) (hs : plate.state ≠ .assembling) : ¬s.HoldsTileOf p := by
  rintro ⟨x, tile, hc, ht, rfl⟩
  have ha : tile.active = true := by simpa [State.tileIs, ht] using (law.active x).2 hc
  exact hs (law.busy x tile plate ht ha hp)

/-- R45, R47: a plate that is not ASSEMBLING becomes FREE. -/
theorem freed_law {s t : State} {p : SlotNo} {plate : Plate} (law : AssemblyLaw s) (h : Outside s t p plate)
    (hfree : t.asm.plates[p] = none) (hgone : ∀ x ∈ plate.tiles, t.asm.tiles[x] = none) (hs : plate.state ≠ .assembling)
    (same : SamePath s t) (take : TakeLaw t) : AssemblyLaw t := by
  refine (assemblyLaw_iff t).2 ⟨h.placed law hfree hgone, h.counted law fun pl hpl => ?_,
    h.path law (fun x hx => ?_) (fun hcur => absurd hcur (not_holdsTileOf law h.here hs)) fun _ => same, take⟩
  · rw [hfree] at hpl
    cases hpl
  · simp [State.tileIs, hgone x hx]

/-- R34: a DISCARDED tile returns to PENDING. -/
theorem returned_law {s : State} {x : TileNo} {tile : Tile} {heat : Option Nat} (law : AssemblyLaw s)
    (ht : s.asm.tiles[x] = some tile) (hs : tile.state = .closing .discarded heat) :
    AssemblyLaw (s.setTile x (some tile.returned)) := by
  obtain ⟨placed, counted, path, take⟩ := (assemblyLaw_iff s).1 law
  obtain ⟨hactive, hends⟩ := closing_active hs
  have hone : OneTile s (s.setTile x (some tile.returned)) x tile tile.returned := ⟨ht, rfl, rfl, rfl⟩
  exact (assemblyLaw_iff _).2 ⟨hone.placed placed, hone.counted (by rw [hends]; rfl) counted,
    hone.path ⟨rfl, rfl, rfl⟩ (by rw [hactive]; rfl) path, hone.take rfl rfl take⟩

/-- R34, R47: a DISCARDED tile returns to PENDING, and a DISMISSING plate with none CLOSING is FREE. -/
theorem deliverFence_returns_law {s : State} {x : TileNo} {tile : Tile} {heat : Option Nat} (law : AssemblyLaw s)
    (ht : s.asm.tiles[x] = some tile) (hs : tile.state = .closing .discarded heat) : AssemblyLaw (s.deliverFence x) := by
  let u := s.setTile x (some tile.returned)
  have hu : AssemblyLaw u := returned_law law ht hs
  rw [deliverFence_returns ht hs]
  obtain ⟨plate, hp, -⟩ := hu.owned x tile.returned (setTile_self s x _)
  have hp' : u.asm.plates[tile.slot] = some plate := hp
  by_cases hfree : (∃ d f, plate.state = .dismissing d f) ∧ u.noneClosing plate = true
  · obtain ⟨⟨d, f, hd⟩, hnone⟩ := hfree
    obtain ⟨tiles, hout, htiles⟩ := freePlate_eq d f hp'
    rw [freeIfDone_dismissing hp' hd, if_pos hnone, hout]
    have hne : plate.state ≠ .assembling := by
      rw [hd]
      exact PlateState.noConfusion
    have hplates : ∀ q : SlotNo, (u.asm.plates.set tile.slot none)[q] = if q = tile.slot then none else u.asm.plates[q] :=
      fun q => getElem_set_fin u.asm.plates tile.slot q none
    refine freed_law hu ⟨hp', fun q hq => (hplates q).trans (if_neg hq), fun y hy => (htiles y).trans (if_neg hy)⟩
      ((hplates _).trans (if_pos rfl)) (fun y hy => (htiles y).trans (if_pos hy)) hne ⟨rfl, rfl, rfl⟩ ?_
    obtain ⟨-, -, -, take'⟩ := (assemblyLaw_iff u).1 hu
    refine take'.keeps rfl rfl fun q pl hpl hlive => ⟨pl, (hplates q).trans ((if_neg ?_).trans hpl), hlive⟩
    rintro rfl
    rw [hp'] at hpl
    cases hpl
    rcases hlive with h | h <;> rw [hd] at h <;> cases h
  · rw [freeIfDone_keeps hp' (by simpa [or_iff_not_imp_left] using hfree)]
    exact hu

theorem deliverFence_law {s : State} (x : TileNo) (law : AssemblyLaw s) : AssemblyLaw (s.deliverFence x) := by
  cases ht : s.asm.tiles[x] with
  | none => simpa only [State.deliverFence, ht] using law
  | some tile =>
    cases hs : tile.state with
    | closing o heat =>
      by_cases ho : o = .discarded
      · subst ho
        exact deliverFence_returns_law law ht hs
      · exact deliverFence_ends_law law ht hs ho
    | _ => simpa only [State.deliverFence, ht, hs] using law

end Sys2Proof.Machine
end

section
/-! PROOFS. The law of the tables and the exposure path (O56) when a plate is accepted or dismissed and when a tile is
retaken. -/

namespace Sys2Proof.Machine

/-! ### Acceptance (R28) -/

theorem mem_newPlate {s : State} {ws : List Word} {x : TileNo} (hx : x ∈ (s.newPlate ws).tiles) :
    s.asm.tiles[x] = none := by
  have hfree : x ∈ s.freeTiles := List.mem_of_mem_take hx
  simpa [State.freeTiles] using hfree

theorem newPlate_length {s : State} {ws : List Word} (h : (geometryOf ws).tiles ≤ s.freeTiles.length) :
    (s.newPlate ws).tiles.length = (geometryOf ws).tiles :=
  (List.length_take).trans (min_eq_left h)

/-- The tables after an acceptance: a new plate in a FREE slot, its tiles in FREE entries. -/
structure Accepted (s t : State) (p : SlotNo) (ws : List Word) : Prop where
  free : s.asm.plates[p] = none
  plates : ∀ q : SlotNo, t.asm.plates[q] = if q = p then some (s.newPlate ws) else s.asm.plates[q]
  new : ∀ (i : Nat) (x : TileNo), (s.newPlate ws).tiles[i]? = some x →
    t.asm.tiles[x] = some (newTile p (geometryOf ws).cols i)
  old : ∀ x : TileNo, x ∉ (s.newPlate ws).tiles → t.asm.tiles[x] = s.asm.tiles[x]

theorem acceptPlate_accepted {s : State} {p : SlotNo} (ws : List Word) (hp : s.asm.plates[p] = none) :
    Accepted s (s.acceptPlate p ws) p ws := by
  obtain ⟨tiles, pool, heq, hnew, hold, -⟩ := acceptPlate_eq s p ws
  rw [heq]
  exact ⟨hp, fun q => getElem_set_fin s.asm.plates p q _, hnew, hold⟩

section
variable {s t : State} {p : SlotNo} {ws : List Word}

/-- An entry that was not FREE is not the new plate's. -/
theorem Accepted.kept (h : Accepted s t p ws) {x : TileNo} {tile : Tile} (ht : s.asm.tiles[x] = some tile) :
    t.asm.tiles[x] = some tile :=
  (h.old x fun hx => by simp [mem_newPlate hx] at ht).trans ht

theorem Accepted.resident (h : Accepted s t p ws) {q : SlotNo} {plate : Plate} (hq : s.asm.plates[q] = some plate) :
    q ≠ p := by
  rintro rfl
  simp [h.free] at hq

theorem Accepted.placed (h : Accepted s t p ws) (hcols : 0 < (geometryOf ws).cols)
    (hroom : (geometryOf ws).tiles ≤ s.freeTiles.length) (law : Placed s) : Placed t where
  listed q plate hq i x hx := by
    rw [h.plates] at hq
    split at hq
    · next hqp =>
      cases hq
      exact ⟨_, h.new i x hx, hqp.symm, rfl, rfl, rfl⟩
    · obtain ⟨tile, ht, hplace⟩ := law.listed q plate hq i x hx
      exact ⟨tile, h.kept ht, hplace⟩
  owned x tile ht := by
    by_cases hx : x ∈ (s.newPlate ws).tiles
    · obtain ⟨i, hi⟩ := List.mem_iff_getElem?.1 hx
      rw [h.new i x hi] at ht
      cases ht
      exact ⟨s.newPlate ws, (h.plates p).trans (if_pos rfl), hi⟩
    · rw [h.old x hx] at ht
      obtain ⟨plate, hp, hmem⟩ := law.owned x tile ht
      exact ⟨plate, (h.plates _).trans ((if_neg (h.resident hp)).trans hp), hmem⟩
  sized q plate hq := by
    rw [h.plates] at hq
    split at hq
    · cases hq
      exact ⟨newPlate_length hroom, hcols⟩
    · exact law.sized q plate hq

theorem Accepted.counted (h : Accepted s t p ws) (htiles : 0 < (geometryOf ws).tiles) (placed : Placed s)
    (law : Counted s) : Counted t := by
  intro q plate hq
  rw [h.plates] at hq
  split at hq
  · cases hq
    have hends : ∀ x ∈ (s.newPlate ws).tiles, t.endsAt x = some (false, false) := fun x hx => by
      obtain ⟨i, hi⟩ := List.mem_iff_getElem?.1 hx
      exact congrArg (Option.map Tile.ends) (h.new i x hi)
    refine ⟨?_, ?_, fun _ => htiles, fun hc => by cases hc⟩
    · refine (List.length_eq_zero_iff.2 (List.filter_eq_nil_iff.2 fun x hx => ?_)).symm
      rw [tileIs_done, hends x hx]
      exact Bool.false_ne_true
    · refine (List.length_eq_zero_iff.2 (List.filter_eq_nil_iff.2 fun x hx => ?_)).symm
      rw [tileIs_failed, hends x hx]
      exact Bool.false_ne_true
  · refine (law q plate hq).congr (fun x hx => ?_) rfl rfl rfl rfl (.inl rfl)
    obtain ⟨i, hi⟩ := List.mem_iff_getElem?.1 hx
    obtain ⟨tile, ht, -⟩ := placed.listed q plate hq i x hi
    simp only [State.endsAt, h.kept ht, ht]

theorem Accepted.path (h : Accepted s t p ws) (same : SamePath s t) (placed : Placed s) (law : PathLaw s) :
    PathLaw t := by
  have hactive : ∀ x : TileNo, t.tileIs Tile.active x = s.tileIs Tile.active x := fun x => by
    by_cases hx : x ∈ (s.newPlate ws).tiles
    · obtain ⟨i, hi⟩ := List.mem_iff_getElem?.1 hx
      simp only [State.tileIs, h.new i x hi, mem_newPlate hx]
      rfl
    · simp only [State.tileIs, h.old x hx]
  refine law.keeps same hactive fun x tile plate ht ha hp => ?_
  have hx : s.tileIs Tile.active x = true := by rw [← hactive x, State.tileIs, ht, Option.any_some, ha]
  obtain ⟨tile', ht', -⟩ := (Option.any_eq_true _ _).1 hx
  have hkept := h.kept ht'
  rw [ht] at hkept
  cases hkept
  obtain ⟨plate', hp', -⟩ := placed.owned x tile ht'
  rw [h.plates, if_neg (h.resident hp')] at hp
  exact law.busy x tile plate ht' ha hp

end

theorem acceptPlate_law {s : State} {p : SlotNo} {ws : List Word} (law : AssemblyLaw s) (hp : s.asm.plates[p] = none)
    (hrows : 0 < (geometryOf ws).rows) (hcols : 0 < (geometryOf ws).cols)
    (hroom : (geometryOf ws).tiles ≤ s.freeTiles.length) : AssemblyLaw (s.acceptPlate p ws) := by
  have h := acceptPlate_accepted ws hp
  obtain ⟨placed, counted, path, take⟩ := (assemblyLaw_iff s).1 law
  obtain ⟨-, -, -, hmerge, hseq, hstage, -, hplan, hdown, -⟩ := acceptPlate_frame s p ws
  refine (assemblyLaw_iff _).2 ⟨h.placed hcols hroom placed, h.counted (Nat.mul_pos hrows hcols) placed counted,
    h.path ⟨hseq, hmerge, hstage⟩ placed path, take.keeps hplan hdown fun q plate hq hs => ?_⟩
  exact ⟨plate, (h.plates q).trans ((if_neg (h.resident hq)).trans hq), hs⟩

/-! ### RETAKE (R42, R43) -/

/-- The tables after a RETAKE, whatever becomes of the band. -/
theorem acceptRetake_asm {s : State} {p : SlotNo} {plate : Plate} (x : TileNo) (tile : Tile)
    (hp : s.asm.plates[p] = some plate) : ∃ holds, (s.acceptRetake p x tile).asm =
      { plates := s.asm.plates.set p (some { plate.retaken (tile.state == .done) with bandHolds := holds })
        tiles := s.asm.tiles.set x (some tile.retaken) } := by
  have hself : (s.tileRetaken p plate x tile).asm.plates[p] = some (plate.retaken (tile.state == .done)) :=
    (getElem_set_fin s.asm.plates p p _).trans (if_pos rfl)
  rw [acceptRetake_eq x tile hp]
  cases hb : (plate.retaken (tile.state == .done)).bandHold tile.row with
  | some h =>
    rw [closeBand_held hself hb]
    exact ⟨plate.bandHolds, rfl⟩
  | none =>
    cases hf : (s.tileRetaken p plate x tile).freeHolds with
    | cons h more =>
      rw [closeBand_open hself hb hf]
      refine ⟨plate.bandHolds.set tile.row (some h), ?_⟩
      simp only [State.tileRetaken, Vector.set_set]
      rfl
    | nil =>
      have hstay : (s.tileRetaken p plate x tile).closeBand p tile.row = s.tileRetaken p plate x tile := by
        simp only [State.closeBand, hself, hb, hf]
      rw [hstay]
      exact ⟨plate.bandHolds, rfl⟩

theorem final_ends {tile : Tile} (h : tile.final = true) :
    tile.active = false ∧ tile.ends = (tile.state == .done, !(tile.state == .done)) := by
  unfold Tile.ends
  unfold Tile.active Tile.final at *
  cases hs : tile.state <;> simp [hs] at h ⊢

/-- One count goes down by one: that of the state the tile had (R42). -/
theorem retaken_counts {plate : Plate} {wasDone : Bool} {d f : Nat} (hd : d + wasDone.toNat = plate.tilesDone)
    (hf : f + (!wasDone).toNat = plate.tilesFailed) :
    (plate.retaken wasDone).tilesDone = d ∧ (plate.retaken wasDone).tilesFailed = f
      ∧ d + f + 1 = plate.tilesDone + plate.tilesFailed := by
  cases wasDone <;> simp [Plate.retaken] at hd hf ⊢ <;> omega

theorem acceptRetake_law {s : State} {p : SlotNo} {plate : Plate} {x : TileNo} {tile : Tile} (law : AssemblyLaw s)
    (hp : s.asm.plates[p] = some plate) (hmem : x ∈ plate.tiles) (ht : s.asm.tiles[x] = some tile)
    (hfinal : tile.final = true) : AssemblyLaw (s.acceptRetake p x tile) := by
  obtain ⟨tile', ht', rfl⟩ := (mem_tiles_iff law hp x).1 hmem
  rw [ht] at ht'
  cases ht'
  obtain ⟨holds, hasm⟩ := acceptRetake_asm x tile hp
  have h : TileAndPlate s (s.acceptRetake tile.slot x tile) x tile tile.retaken plate
      { plate.retaken (tile.state == .done) with bandHolds := holds } :=
    ⟨ht, hp, congrArg Assembly.plates hasm, congrArg Assembly.tiles hasm, rfl, rfl⟩
  obtain ⟨placed, counted, path, take⟩ := (assemblyLaw_iff s).1 law
  obtain ⟨hactive, hends⟩ := final_ends hfinal
  obtain ⟨hdone, hfailed⟩ := h.counts law
  have hnext : tile.retaken.ends = (false, false) := rfl
  rw [hends, hnext] at hdone hfailed
  have hpc := counted tile.slot plate hp
  obtain ⟨hsize, -⟩ := placed.sized tile.slot plate hp
  have hle : plate.tilesDone + plate.tilesFailed ≤ plate.geo.tiles := by
    rw [hpc.done, hpc.failed, countDone_add_countFailed, ← hsize]
    exact List.length_filter_le _ _
  obtain ⟨hd, hf, hsum⟩ := retaken_counts (wasDone := tile.state == .done) (hdone.trans hpc.done.symm)
    (hfailed.trans hpc.failed.symm)
  have hplate : PlateCounted (s.acceptRetake tile.slot x tile)
      { plate.retaken (tile.state == .done) with bandHolds := holds } := by
    refine ⟨hd, hf, fun _ => ?_, fun hc => by cases hc⟩
    show (plate.retaken _).tilesDone + (plate.retaken _).tilesFailed < plate.geo.tiles
    omega
  have counted' := h.counted law hplate
  have placed' := h.placed placed
  obtain ⟨-, -, -, hmerge, hseq, hstage, -, hplan, hdown, -⟩ := acceptRetake_frame s tile.slot x tile
  exact (assemblyLaw_iff _).2 ⟨placed', counted',
    h.path ⟨hseq, hmerge, hstage⟩ hactive rfl placed' counted' (fun d f hd => by cases hd) path,
    h.take hplan hdown (fun _ => .inl rfl) take⟩

/-! ### DISMISS (R45, R46) -/

theorem dismissReady_some {s : State} {k : Take} {p : SlotNo} {plate : Plate} (h : s.dismissReady = some (k, p, plate)) :
    s.plan.take = some k ∧ k.step = .waitingReservation ∧ slotField k.body = some p ∧ s.asm.plates[p] = some plate
      ∧ s.report.used + 1 ≤ 16 := by
  unfold State.dismissReady at h
  split at h
  · cases h
  next k' hk =>
  split at h
  · cases h
  next p' hf =>
  split at h
  · cases h
  next plate' hp =>
  split at h
  · next hready =>
    cases h
    simp only [Bool.and_eq_true, beq_iff_eq, decide_eq_true_eq] at hready
    exact ⟨hk, hready.1, hf, hp, hready.2⟩
  · cases h

/-- R182: a waiting DISMISS names an ASSEMBLING or COMPLETE plate. -/
theorem dismissReady_live {s : State} (law : AssemblyLaw s) {k : Take} {p : SlotNo} {plate : Plate}
    (h : s.dismissReady = some (k, p, plate)) : plate.state = .assembling ∨ plate.state = .complete := by
  obtain ⟨hk, hs, hf, hp, -⟩ := dismissReady_some h
  obtain ⟨p', plate', hf', hp', hlive⟩ := law.waiting k hk hs
  rw [hf] at hf'
  cases hf'
  rw [hp] at hp'
  cases hp'
  exact hlive

/-- R45: what a DISMISS of a COMPLETE plate leaves. -/
theorem dismissed_complete {s : State} {k : Take} {p : SlotNo} {plate : Plate}
    (h : s.dismissReady = some (k, p, plate)) (hc : plate.state = .complete) :
    Outside s (dismissReservation s) p plate ∧ (dismissReservation s).asm.plates[p] = none
      ∧ (∀ x ∈ plate.tiles, (dismissReservation s).asm.tiles[x] = none) ∧ SamePath s (dismissReservation s)
      ∧ TakeLaw (dismissReservation s) ∧ (dismissReservation s).report = { s.report with
        queue := s.report.queue ++ [.plateDismissed p plate.tag plate.tilesDone plate.tilesFailed] } := by
  obtain ⟨-, -, -, hp, -⟩ := dismissReady_some h
  have hmarked := dismissStarted_plates hp
  obtain ⟨tiles, hfree, htiles⟩ := freePlate_eq plate.tilesDone plate.tilesFailed ((hmarked p).trans (if_pos rfl))
  have hplates : ∀ q : SlotNo, ((s.dismissStarted p).asm.plates.set p none)[q] = if q = p then none else s.asm.plates[q] := by
    intro q
    rw [getElem_set_fin, hmarked]
    split <;> rfl
  rw [dismissReservation_complete h hc, hfree]
  exact ⟨⟨hp, fun q hq => (hplates q).trans (if_neg hq), fun x hx => (htiles x).trans (if_neg hx)⟩,
    (hplates p).trans (if_pos rfl), fun x hx => (htiles x).trans (if_pos hx), ⟨rfl, rfl, rfl⟩, result_takeLaw _ _ _ _, rfl⟩

theorem dismiss_complete_law {s : State} {k : Take} {p : SlotNo} {plate : Plate} (law : AssemblyLaw s)
    (h : s.dismissReady = some (k, p, plate)) (hc : plate.state = .complete) : AssemblyLaw (dismissReservation s) := by
  obtain ⟨hout, hfree, hgone, same, take, -⟩ := dismissed_complete h hc
  refine freed_law law hout hfree hgone ?_ same take
  rw [hc]
  exact PlateState.noConfusion

section
variable {s : State} {x : TileNo} {tile : Tile}

theorem discard_ends (tile : Tile) : tile.discard.ends = tile.ends ∧ tile.discard.active = tile.active
    ∧ tile.discard.place = tile.place := by
  unfold Tile.discard
  split
  · next o heat h => simp [Tile.ends, Tile.final, Tile.active, Tile.place, h]
  · exact ⟨rfl, rfl, rfl⟩

/-- A tile of a dismissed plate keeps its place and its final state, and is off the exposure path (R46). -/
theorem dropped_law (law : AssemblyLaw s) (ht : s.asm.tiles[x] = some tile) :
    (s.tileAfter x tile).dropped.place = tile.place ∧ (s.tileAfter x tile).dropped.ends = tile.ends
      ∧ (s.tileAfter x tile).dropped.active = false := by
  have hcur : tile.active = true ↔ s.seq.current = some x := by simpa [State.tileIs, ht] using law.active x
  rw [dropped_tileAfter]
  split
  · next hc =>
    rw [active_ends (hcur.2 hc)]
    split <;> exact ⟨rfl, rfl, rfl⟩
  · next hc =>
    obtain ⟨hends, hactive, hplace⟩ := discard_ends tile
    exact ⟨hplace, hends, hactive.trans (Bool.eq_false_iff.2 fun ha => hc (hcur.1 ha))⟩

end

/-- What the steps of R46 leave before the plate is freed or stays DISMISSING. -/
structure Discarded (s y : State) (p : SlotNo) (plate : Plate) : Prop where
  outside : Outside s y p plate
  marked : y.asm.plates[p] = some (plate.dismissing { plate with dismissReserved := true })
  tiles : ∀ x ∈ plate.tiles, ∃ tile, s.asm.tiles[x] = some tile ∧ y.asm.tiles[x] = some (s.tileAfter x tile).dropped
  left : s.HoldsTileOf p → SamePath s.leave y
  kept : ¬s.HoldsTileOf p → SamePath s y
  reserved : y.report.reserved = s.report.reserved + 1 - (plate.tiles.map s.placesOf).sum
  places : y.report.used ≤ 16

theorem dismissed_assembling {s : State} {k : Take} {p : SlotNo} {plate : Plate} (law : AssemblyLaw s)
    (h : s.dismissReady = some (k, p, plate)) (ha : plate.state = .assembling) :
    ∃ y, dismissReservation s = (y.freeIfDone p).result k .accepted 0 ∧ Discarded s y p plate := by
  obtain ⟨-, -, -, hp, hroom⟩ := dismissReady_some h
  let v := (s.dismissStarted p).discardCurrent p
  have hone : StepOne s v p plate := stepOne law hp ha
  have hplates := discarded_stepOne_plates hone
  have htiles := discarded_stepOne_tiles hone (tiles_nodup law hp)
  obtain ⟨-, hmerge, hseq, hstage, -⟩ := discarded_frame p plate v
  have hway := discarded_stepOne_sameWay hone (tiles_nodup law hp) (by simp [v, State.dismissStarted])
  have halike := foldl_alike _ (fun s r => forwardStale_alike s .dismiss r)
    (s.hold.queue.filter fun r => decide (some r.hold ∈ plate.bandHolds)) { s with report := { s.report with
      reserved := s.report.reserved + 1 - (plate.tiles.map s.placesOf).sum } }
  refine ⟨v.discarded p plate, dismissReservation_assembling h ha,
    ⟨hp, fun q hq => (hplates q).trans (if_neg hq), fun x hx => (htiles x).trans (if_neg hx)⟩,
    (hplates p).trans (if_pos rfl), fun x hx => ?_, fun hcur => ?_, fun hcur => ?_, ?_, ?_⟩
  · obtain ⟨tile, ht, -⟩ := (mem_tiles_iff law hp x).1 hx
    refine ⟨tile, ht, (htiles x).trans ((if_pos hx).trans ?_)⟩
    rw [ht, Option.map_some]
  · obtain ⟨hseq', hmerge', hstage'⟩ := hone.left hcur
    exact ⟨hseq.trans hseq', hmerge.trans hmerge', hstage.trans hstage'⟩
  · obtain ⟨hseq', hmerge', hstage'⟩ := hone.kept hcur
    exact ⟨hseq.trans hseq', hmerge.trans hmerge', hstage.trans hstage'⟩
  · rw [hway.report, halike.reserved]
  · rw [hway.report]
    refine halike.used.trans (max_le ?_ (le_refl 16))
    simp only [Report.used] at hroom ⊢
    omega

theorem Discarded.result {s y : State} {p : SlotNo} {plate : Plate} (h : Discarded s y p plate) (k : Take) (c : Code)
    (d : Nat) : Discarded s (y.result k c d) p plate where
  outside := ⟨h.outside.here, h.outside.plates, h.outside.tiles⟩
  marked := h.marked
  tiles := h.tiles
  left hcur := (h.left hcur).trans ⟨rfl, rfl, rfl⟩
  kept hcur := (h.kept hcur).trans ⟨rfl, rfl, rfl⟩
  reserved := h.reserved
  places := h.places

/-- R46: the plate is DISMISSING, its tiles keep their places in it and their final states. -/
theorem Discarded.law {s y : State} {p : SlotNo} {plate : Plate} (h : Discarded s y p plate) (law : AssemblyLaw s)
    (take : TakeLaw y) : AssemblyLaw y := by
  have hp := h.outside.here
  obtain ⟨placed, counted, -⟩ := (assemblyLaw_iff s).1 law
  have hends : ∀ x ∈ plate.tiles, y.endsAt x = s.endsAt x := fun x hx => by
    obtain ⟨tile, ht, hy⟩ := h.tiles x hx
    obtain ⟨-, hends, -⟩ := dropped_law law ht
    simp only [State.endsAt, hy, ht, Option.map_some, hends]
  have hshape : Reshaped s y := by
    refine ⟨fun q => ?_, fun x => ?_⟩
    · by_cases hq : q = p
      · subst hq
        rw [h.marked, hp]
        rfl
      · rw [h.outside.plates q hq]
    · by_cases hx : x ∈ plate.tiles
      · obtain ⟨tile, ht, hy⟩ := h.tiles x hx
        obtain ⟨hplace, -⟩ := dropped_law law ht
        rw [hy, ht, Option.map_some, Option.map_some, hplace]
      · rw [h.outside.tiles x hx]
  refine (assemblyLaw_iff _).2 ⟨hshape.placed placed, h.outside.counted law fun pl hpl => ?_,
    h.outside.path law (fun x hx => ?_) h.left h.kept, take⟩
  · cases h.marked.symm.trans hpl
    exact (counted p plate hp).congr hends rfl rfl rfl rfl (.inr ⟨_, _, rfl⟩)
  · obtain ⟨tile, ht, hy⟩ := h.tiles x hx
    obtain ⟨-, -, hactive⟩ := dropped_law law ht
    simp only [State.tileIs, hy, Option.any_some, hactive]

/-- R46: a DISMISS of an ASSEMBLING plate leaves it DISMISSING, or FREE with none of its tiles CLOSING. -/
theorem dismiss_assembling_law {s : State} {k : Take} {p : SlotNo} {plate : Plate} (law : AssemblyLaw s)
    (h : s.dismissReady = some (k, p, plate)) (ha : plate.state = .assembling) : AssemblyLaw (dismissReservation s) := by
  obtain ⟨y, heq, hy⟩ := dismissed_assembling law h ha
  have hlaw := (hy.result k .accepted 0).law law (result_takeLaw y k .accepted 0)
  rw [heq, freeIfDone_dismissing hy.marked rfl]
  split
  · obtain ⟨tiles, hfree, htiles⟩ := freePlate_eq plate.tilesDone plate.tilesFailed hy.marked
    have hplates : ∀ q : SlotNo, (y.asm.plates.set p none)[q] = if q = p then none else y.asm.plates[q] :=
      fun q => getElem_set_fin y.asm.plates p q none
    rw [hfree]
    exact freed_law hlaw
      ⟨hy.marked, fun q hq => (hplates q).trans (if_neg hq), fun x hx => (htiles x).trans (if_neg hx)⟩
      ((hplates p).trans (if_pos rfl)) (fun x hx => (htiles x).trans (if_pos hx)) PlateState.noConfusion ⟨rfl, rfl, rfl⟩
      (result_takeLaw _ _ _ _)
  · exact hlaw

end Sys2Proof.Machine
end

section
/-! PROOFS. The law of the tables and the exposure path (O56) along every kind of move. -/

namespace Sys2Proof.Machine

section
variable {s t : State}

/-! ### Moves of one tile -/

theorem Alike.assembly (h : Alike s t) (law : AssemblyLaw s) : AssemblyLaw t := by
  obtain ⟨placed, counted, path, take⟩ := (assemblyLaw_iff s).1 law
  have hasm := h.asm
  have hactive : ∀ x : TileNo, t.tileIs Tile.active x = s.tileIs Tile.active x := fun x => by
    simp only [State.tileIs, hasm]
  refine (assemblyLaw_iff t).2 ⟨Reshaped.placed ⟨fun p => by rw [hasm], fun x => by rw [hasm]⟩ placed, fun p plate hp => ?_,
    ?_, h.takes take⟩
  · rw [hasm] at hp
    exact (counted p plate hp).congr (fun x _ => by simp only [State.endsAt, hasm]) rfl rfl rfl rfl (.inl rfl)
  · refine ⟨fun x => ?_, fun x tile plate ht ha hp => ?_, ?_, ?_, fun hc => ?_, h.trig path.trig⟩
    · rw [hactive, h.current]
      exact path.active x
    · rw [hasm] at ht hp
      exact path.busy x tile plate ht ha hp
    · rw [h.moveok, h.current]
      exact path.moveok
    · rw [h.watched, h.current]
      exact path.watched
    · have hcs := h.current.symm.trans hc
      exact h.resting hcs (path.idle hcs)

/-- A tile changes within its state or along the exposure path. -/
theorem touch_law {x : TileNo} {tile next : Tile} (law : AssemblyLaw s) (ht : s.asm.tiles[x] = some tile)
    (hplace : SamePlace tile next) (hstate : next.state = tile.state ∨ tile.active = true ∧ next.active = true) :
    AssemblyLaw (s.setTile x (some next)) := by
  have hone : OneTile s (s.setTile x (some next)) x tile next := ⟨ht, rfl, rfl, hplace.place⟩
  obtain ⟨placed, counted, path, take⟩ := (assemblyLaw_iff s).1 law
  have hkept : next.ends = tile.ends ∧ next.active = tile.active := by
    rcases hstate with hs | ⟨hbefore, hafter⟩
    · exact ends_of_state hs
    · rw [active_ends hbefore, active_ends hafter, hbefore, hafter]
      exact ⟨rfl, rfl⟩
  obtain ⟨hends, hactive⟩ := hkept
  exact (assemblyLaw_iff _).2 ⟨hone.placed placed, hone.counted hends counted, hone.path ⟨rfl, rfl, rfl⟩ hactive path,
    hone.take rfl rfl take⟩

/-- The current tile leaves the exposure path, PENDING or CLOSING. -/
theorem left_law {x : TileNo} {tile next : Tile} {plate : Plate} (law : AssemblyLaw s)
    (hc : s.currentTile = some (x, tile, plate)) (h : OneTile s t x tile next) (left : SamePath s.leave t)
    (hends : next.ends = (false, false)) (hactive : next.active = false) (hplan : t.plan = s.plan)
    (hdown : t.down = s.down) : AssemblyLaw t := by
  obtain ⟨hcur, -, -, ha⟩ := currentTile_some.1 hc
  obtain ⟨placed, counted, path, take⟩ := (assemblyLaw_iff s).1 law
  exact (assemblyLaw_iff t).2 ⟨h.placed placed, h.counted (hends.trans (active_ends ha).symm) counted,
    h.left left hcur hactive path, h.take hplan hdown take⟩

/-- The tile's entry as it is armed (R55). -/
def State.armedTile (s : State) (tile : Tile) : Tile := { tile.arm 0 s.lamp.zone with reservation := 2 }

theorem armedFor_oneTile {x : TileNo} {tile : Tile} (plate : Plate) (ht : s.asm.tiles[x] = some tile) :
    OneTile s (s.armedFor x plate tile) x tile (s.armedTile tile) := by
  refine ⟨ht, rfl, rfl, ?_⟩
  rw [State.armedTile, arm_eq]
  rfl

theorem armedTile_state (s : State) (tile : Tile) : (s.armedTile tile).state = .armed := by
  rw [State.armedTile, arm_eq]

/-- R55: an armed tile is the current one, and its plate is watched. -/
theorem arm_law {p : SlotNo} {plate : Plate} {x : TileNo} {tile : Tile} (law : AssemblyLaw s)
    (hidle : s.seq.current = none) (hp : s.asm.plates[p] = some plate) (ha : plate.state = .assembling)
    (hmem : x ∈ plate.tiles) (ht : s.asm.tiles[x] = some tile) (hs : tile.state = .pending) :
    AssemblyLaw (s.armedFor x plate tile) := by
  obtain ⟨tile', ht', rfl⟩ := (mem_tiles_iff law hp x).1 hmem
  rw [ht] at ht'
  cases ht'
  have hone := armedFor_oneTile plate ht
  obtain ⟨placed, counted, path, take⟩ := (assemblyLaw_iff s).1 law
  have hends : (s.armedTile tile).ends = tile.ends := by
    simp [Tile.ends, Tile.final, armedTile_state, hs]
  have hactive : (s.armedTile tile).active = true := by
    simp [Tile.active, armedTile_state]
  have hslot : (s.armedTile tile).slot = tile.slot := congrArg Prod.fst hone.place
  have hnone : ∀ y : TileNo, s.tileIs Tile.active y = false := fun y => by
    refine Bool.eq_false_iff.2 fun hy => ?_
    rw [path.active y, hidle] at hy
    cases hy
  refine (assemblyLaw_iff _).2 ⟨hone.placed placed, hone.counted hends counted, ?_, hone.take rfl rfl take⟩
  refine ⟨fun y => ?_, fun y tile' pl hy hay hpl => ?_, ?_, rfl, fun hc => (Option.some_ne_none x hc).elim, path.trig⟩
  · rw [hone.active, hactive, hnone]
    show _ ↔ some x = some y
    simp [eq_comm]
  · rw [hone.at] at hy
    split at hy
    · cases hy
      rw [hone.plates] at hpl
      simp only [hslot] at hpl
      rw [hp] at hpl
      cases hpl
      exact ha
    · have hno := hnone y
      rw [State.tileIs, hy, Option.any_some, hay] at hno
      cases hno
  · show false = true ↔ some x = none
    simp

/-! ### Moves of all tables -/

/-- With no plate and no tile only the sequencer and the take are asked for. -/
theorem assemblyLaw_of_empty (hplates : ∀ p : SlotNo, t.asm.plates[p] = none) (htiles : ∀ x : TileNo, t.asm.tiles[x] = none)
    (path : PathLaw t) (take : TakeLaw t) : AssemblyLaw t := by
  refine (assemblyLaw_iff t).2 ⟨⟨fun p plate hp => ?_, fun x tile ht => ?_, fun p plate hp => ?_⟩, fun p plate hp => ?_,
    path, take⟩
  · simp [hplates] at hp
  · simp [htiles] at ht
  · simp [hplates] at hp
  · simp [hplates] at hp

/-- R143, R178: with every slot FREE no tile is current, and nothing is watched. -/
theorem unwatch_law (law : AssemblyLaw s) (h : ∀ p : SlotNo, s.asm.plates[p] = none) :
    AssemblyLaw { s with stage := { s.stage with watched := none } } := by
  have hcur : s.seq.current = none := by
    cases hc : s.seq.current with
    | none => rfl
    | some x =>
      obtain ⟨tile, ht, -⟩ := (Option.any_eq_true _ _).1 ((law.active x).2 hc)
      obtain ⟨plate, hp, -⟩ := law.owned x tile ht
      rw [h] at hp
      cases hp
  have hwatched : s.stage.watched.isSome = false := by rw [law.watched, hcur, Option.isSome_none]
  refine Alike.assembly (s := s) ⟨rfl, rfl, rfl, hwatched.symm, fun _ hs => hs, fun hs => hs, fun take => ?_, rfl, ?_⟩ law
  · exact ⟨take.fetches, take.waiting⟩
  · exact le_max_left _ _

theorem reset_plates (lines : StageLines) (straps : BitVec 12) (s : State) (p : SlotNo) :
    (powerOnReset lines straps s).asm.plates[p] = none := by
  simp [powerOnReset, State.resetWith]

theorem reset_tiles (lines : StageLines) (straps : BitVec 12) (s : State) (x : TileNo) :
    (powerOnReset lines straps s).asm.tiles[x] = none := by
  simp [powerOnReset, State.resetWith]

theorem reset_law (lines : StageLines) (straps : BitVec 12) (s : State) :
    AssemblyLaw (powerOnReset lines straps s) := by
  have htiles := reset_tiles lines straps s
  refine assemblyLaw_of_empty (reset_plates lines straps s) htiles ⟨fun x => ?_, fun x tile plate ht => ?_, ?_, rfl,
    fun _ => ⟨rfl, rfl, rfl, rfl, rfl⟩, rfl⟩ ⟨fun k hk => ?_, fun k hk => ?_⟩
  · rw [State.tileIs, htiles]
    show false = true ↔ none = some x
    simp
  · rw [htiles] at ht
    cases ht
  · exact ⟨fun _ => rfl, fun _ => rfl⟩
  · cases hk
  · cases hk

/-! ### Every move -/

theorem Move.assembly (law : AssemblyLaw s) (h : Move s t) : AssemblyLaw t := by
  cases h with
  | alike h => exact h.assembly law
  | touch ht hplace hstate => exact touch_law law ht hplace hstate
  | arm hidle _ hp ha hmem ht hs => exact arm_law law hidle hp ha hmem ht hs
  | abort hc r =>
    obtain ⟨-, ht, -⟩ := currentTile_some.1 hc
    exact left_law law hc ⟨ht, rfl, rfl, rfl⟩ ⟨rfl, rfl, rfl⟩ rfl rfl rfl rfl
  | close hc hplace ho heat =>
    obtain ⟨-, ht, -⟩ := currentTile_some.1 hc
    exact left_law law hc ⟨ht, rfl, rfl, hplace.place⟩ ⟨rfl, rfl, rfl⟩ rfl rfl rfl rfl
  | fence x => exact deliverFence_law x law
  | plate hp hrows hcols hroom => exact acceptPlate_law law hp hrows hcols hroom
  | retake hp _ hmem ht hfinal => exact acceptRetake_law law hp hmem ht hfinal
  | dismiss h =>
    rcases dismissReady_live law h with ha | hc
    · exact dismiss_assembling_law law h ha
    · exact dismiss_complete_law law h hc
  | unwatch h => exact unwatch_law law h
  | reset lines straps => exact reset_law lines straps s

end

/-- Settles O56: a step is a chain of moves, and every move keeps the law. -/
theorem everyStepKeepsTheAssemblyLaw : Obligations.EveryStepKeepsTheAssemblyLaw := by
  unfold Obligations.EveryStepKeepsTheAssemblyLaw
  intro s t law h
  exact (step_moves h).keeps Move.assembly law

end Sys2Proof.Machine
end

section
/-! PROOFS. The Report Queue's places (O58): what tiles and plates hold, and each kind of move. -/

namespace Sys2Proof.Machine

/-! ### Places held -/

/-- The place that a slot's plate holds for its PLATE_DISMISSED record (R41). -/
def State.markOf (s : State) (p : SlotNo) : Nat := (s.asm.plates[p].map (·.dismissReserved.toNat)).getD 0

theorem toList_eq_map_finRange {α : Type} {n : Nat} (v : Vector α n) : v.toList = (List.finRange n).map fun i => v[i] := by
  refine List.ext_getElem (by simp) fun i h _ => ?_
  simp

theorem heldPlaces_eq (s : State) :
    s.heldPlaces = ((List.finRange 64).map s.placesOf).sum + ((List.finRange 4).map s.markOf).sum := by
  simp only [State.heldPlaces, toList_eq_map_finRange, List.map_map]
  rfl

/-- The places held change as those of the tiles and the plate that change. -/
theorem heldPlaces_changed {s t : State} {l : List TileNo} (hl : l.Nodup) (p : SlotNo)
    (htiles : ∀ x : TileNo, x ∉ l → t.asm.tiles[x] = s.asm.tiles[x])
    (hplates : ∀ q : SlotNo, q ≠ p → t.asm.plates[q] = s.asm.plates[q]) :
    t.heldPlaces + (l.map s.placesOf).sum + s.markOf p = s.heldPlaces + (l.map t.placesOf).sum + t.markOf p := by
  have hsumTiles := sum_map_changed (List.nodup_finRange 64) hl (fun x _ => List.mem_finRange x)
    (f := s.placesOf) (g := t.placesOf) fun x _ hx => by rw [State.placesOf, htiles x hx, State.placesOf]
  have hsumPlates := sum_map_changed (List.nodup_finRange 4) (List.nodup_singleton p) (fun x _ => List.mem_finRange x)
    (f := s.markOf) (g := t.markOf) fun q _ hq => by
      rw [State.markOf, hplates q (List.ne_of_not_mem_cons hq), State.markOf]
  simp only [List.map_singleton, List.sum_singleton] at hsumPlates
  rw [heldPlaces_eq, heldPlaces_eq]
  omega

theorem placesOf_some {s : State} {x : TileNo} {tile : Tile} (h : s.asm.tiles[x] = some tile) :
    s.placesOf x = tile.reservation := by
  rw [State.placesOf, h]
  rfl

theorem placesOf_none {s : State} {x : TileNo} (h : s.asm.tiles[x] = none) : s.placesOf x = 0 := by
  rw [State.placesOf, h]
  rfl

theorem markOf_some {s : State} {p : SlotNo} {plate : Plate} (h : s.asm.plates[p] = some plate) :
    s.markOf p = plate.dismissReserved.toNat := by
  rw [State.markOf, h]
  rfl

theorem markOf_none {s : State} {p : SlotNo} (h : s.asm.plates[p] = none) : s.markOf p = 0 := by
  rw [State.markOf, h]
  rfl

theorem sum_map_zero {α : Type} {l : List α} {f : α → Nat} (h : ∀ x ∈ l, f x = 0) : (l.map f).sum = 0 :=
  List.sum_eq_zero (List.forall_mem_map.2 h)

/-! ### Places by state -/

theorem active_reservation {tile : Tile} (h : tile.active = true) : tile.state.reservation = 2 := by
  unfold Tile.active at h
  cases hs : tile.state <;> simp [hs, TileState.reservation] at h ⊢

/-- A tile that is neither on the exposure path nor CLOSING holds no place. -/
theorem quiet_reservation {tile : Tile} (ha : tile.active = false) (hc : tile.isClosing = false) :
    tile.state.reservation = 0 := by
  unfold Tile.active at ha
  unfold Tile.isClosing at hc
  cases hs : tile.state <;> simp [hs, TileState.reservation] at ha hc ⊢

theorem final_reservation {tile : Tile} (h : tile.final = true) : tile.state.reservation = 0 := by
  unfold Tile.final at h
  cases hs : tile.state <;> simp [hs, TileState.reservation] at h ⊢

theorem closing_reservation {o : ClosingOutcome} (ho : o ≠ .discarded) (heat : Option Nat) :
    (TileState.closing o heat).reservation = 2 := by
  cases o with
  | discarded => exact absurd rfl ho
  | done => rfl
  | failed r => rfl

theorem finalFrom_reservation (tile : Tile) (o : ClosingOutcome) : (tile.finalFrom o).reservation = 0 := by
  rcases finalFrom_final tile o with h | ⟨r, h⟩ <;> rw [h] <;> rfl

/-- R39 to R41: every tile and every plate holds what its state gives it. -/
structure ByState (s : State) : Prop where
  tile : ∀ (x : TileNo) tile, s.asm.tiles[x] = some tile → tile.reservation = tile.state.reservation
  plate : ∀ (p : SlotNo) plate, s.asm.plates[p] = some plate →
    (plate.dismissReserved = true ↔ ∃ done failed, plate.state = .dismissing done failed)

section
variable {s t : State}

theorem ReservationLaw.byState (law : ReservationLaw s) : ByState s := ⟨law.tile, law.plate⟩

theorem ByState.unmarked (law : ByState s) {p : SlotNo} {plate : Plate} (hp : s.asm.plates[p] = some plate)
    (h : plate.state = .assembling ∨ plate.state = .complete) : plate.dismissReserved = false := by
  refine Bool.eq_false_iff.2 fun hmark => ?_
  obtain ⟨d, f, hd⟩ := (law.plate p plate hp).1 hmark
  rcases h with h | h <;> rw [hd] at h <;> cases h

/-- The law after a change whose places go from the tables into the Report Queue or come from it. -/
theorem ReservationLaw.of_changed (law : ReservationLaw s) (h : ByState t) {a b : Nat}
    (hheld : t.heldPlaces + a = s.heldPlaces + b) (hreserved : t.report.reserved = s.report.reserved + b - a)
    (hplaces : t.report.used ≤ 16) : ReservationLaw t := by
  refine ⟨?_, h.tile, h.plate, hplaces⟩
  have htotal := law.total
  omega

/-- The law after places went from the tables into the Report Queue or were given up. -/
theorem ReservationLaw.of_spent (law : ReservationLaw s) (h : ByState t) {a : Nat} (hheld : t.heldPlaces + a = s.heldPlaces)
    (hreserved : t.report.reserved = s.report.reserved - a)
    (hqueue : t.report.queue.length ≤ s.report.queue.length + a) : ReservationLaw t := by
  refine law.of_changed h (b := 0) hheld hreserved ?_
  have htotal := law.total
  have hplaces := law.places
  unfold Report.used at *
  omega

/-! ### One tile, and a tile with its plate -/

theorem OneTile.held {x : TileNo} {tile next : Tile} (h : OneTile s t x tile next) :
    t.heldPlaces + tile.reservation = s.heldPlaces + next.reservation := by
  have hsum := heldPlaces_changed (List.nodup_singleton x) tile.slot (s := s) (t := t)
    (fun y hy => by rw [h.at, if_neg (List.ne_of_not_mem_cons hy)]) (fun q _ => by rw [h.plates])
  have hmark : t.markOf tile.slot = s.markOf tile.slot := by rw [State.markOf, h.plates, State.markOf]
  simp only [List.map_singleton, List.sum_singleton, placesOf_some h.before, placesOf_some ((h.at x).trans (if_pos rfl)),
    hmark] at hsum
  omega

theorem OneTile.byState {x : TileNo} {tile next : Tile} (h : OneTile s t x tile next)
    (hnext : next.reservation = next.state.reservation) (law : ByState s) : ByState t where
  tile y other hy := by
    rw [h.at] at hy
    split at hy
    · cases hy
      exact hnext
    · exact law.tile y other hy
  plate p plate hp := by
    rw [h.plates] at hp
    exact law.plate p plate hp

theorem TileAndPlate.held {x : TileNo} {tile next : Tile} {plate changed : Plate}
    (h : TileAndPlate s t x tile next plate changed) (hmark : changed.dismissReserved = plate.dismissReserved) :
    t.heldPlaces + tile.reservation = s.heldPlaces + next.reservation := by
  have hsum := heldPlaces_changed (List.nodup_singleton x) tile.slot (s := s) (t := t)
    (fun y hy => by rw [h.tileAt, if_neg (List.ne_of_not_mem_cons hy)]) (fun q hq => by rw [h.plateAt, if_neg hq])
  simp only [List.map_singleton, List.sum_singleton, placesOf_some h.before,
    placesOf_some ((h.tileAt x).trans (if_pos rfl)), markOf_some h.owner,
    markOf_some ((h.plateAt tile.slot).trans (if_pos rfl)), hmark] at hsum
  omega

theorem TileAndPlate.byState {x : TileNo} {tile next : Tile} {plate changed : Plate}
    (h : TileAndPlate s t x tile next plate changed) (hnext : next.reservation = next.state.reservation)
    (hchanged : changed.dismissReserved = true ↔ ∃ done failed, changed.state = .dismissing done failed)
    (law : ByState s) : ByState t where
  tile y other hy := by
    rw [h.tileAt] at hy
    split at hy
    · cases hy
      exact hnext
    · exact law.tile y other hy
  plate p pl hp := by
    rw [h.plateAt] at hp
    split at hp
    · cases hp
      exact hchanged
    · exact law.plate p pl hp

/-! ### A plate and its tiles -/

theorem Outside.byState {p : SlotNo} {plate : Plate} (h : Outside s t p plate) (law : ByState s)
    (htiles : ∀ x ∈ plate.tiles, ∀ tile, t.asm.tiles[x] = some tile → tile.reservation = tile.state.reservation)
    (hplate : ∀ pl, t.asm.plates[p] = some pl →
      (pl.dismissReserved = true ↔ ∃ done failed, pl.state = .dismissing done failed)) : ByState t where
  tile x tile ht := by
    by_cases hx : x ∈ plate.tiles
    · exact htiles x hx tile ht
    · rw [h.tiles x hx] at ht
      exact law.tile x tile ht
  plate q pl hq := by
    by_cases hqp : q = p
    · subst hqp
      exact hplate pl hq
    · rw [h.plates q hqp] at hq
      exact law.plate q pl hq

/-- R45, R47: a plate whose tiles hold no places becomes FREE. -/
theorem freed_held {p : SlotNo} {plate : Plate} (h : Outside s t p plate) (hl : plate.tiles.Nodup)
    (hfree : t.asm.plates[p] = none) (hgone : ∀ x ∈ plate.tiles, t.asm.tiles[x] = none)
    (hzero : ∀ x ∈ plate.tiles, s.placesOf x = 0) :
    t.heldPlaces + plate.dismissReserved.toNat = s.heldPlaces := by
  have hsum := heldPlaces_changed hl p h.tiles h.plates
  rw [sum_map_zero hzero, sum_map_zero fun x hx => placesOf_none (hgone x hx), markOf_some h.here,
    markOf_none hfree] at hsum
  exact hsum

theorem freed_byState {p : SlotNo} {plate : Plate} (h : Outside s t p plate) (hfree : t.asm.plates[p] = none)
    (hgone : ∀ x ∈ plate.tiles, t.asm.tiles[x] = none) (law : ByState s) : ByState t := by
  refine h.byState law (fun x hx tile ht => ?_) fun pl hpl => ?_
  · rw [hgone x hx] at ht
    cases ht
  · rw [hfree] at hpl
    cases hpl

end

end Sys2Proof.Machine
end

section
/-! PROOFS. The law of the Report Queue's places (O58) along every kind of move. -/

namespace Sys2Proof.Machine

section
variable {s t : State}

/-! ### Moves of one tile -/

theorem Alike.reservation (h : Alike s t) (law : ReservationLaw s) : ReservationLaw t := by
  have hasm := h.asm
  refine ⟨?_, by rw [hasm]; exact law.tile, by rw [hasm]; exact law.plate,
    h.used.trans (max_le law.places (le_refl 16))⟩
  rw [h.reserved, law.total, State.heldPlaces, State.heldPlaces, hasm]

theorem touch_reservation {x : TileNo} {tile next : Tile} (law : ReservationLaw s) (ht : s.asm.tiles[x] = some tile)
    (hplace : SamePlace tile next) (hstate : next.state = tile.state ∨ tile.active = true ∧ next.active = true) :
    ReservationLaw (s.setTile x (some next)) := by
  have hone : OneTile s (s.setTile x (some next)) x tile next := ⟨ht, rfl, rfl, hplace.place⟩
  have hsame : next.state.reservation = tile.state.reservation := by
    rcases hstate with hs | ⟨hbefore, hafter⟩
    · rw [hs]
    · rw [active_reservation hbefore, active_reservation hafter]
  have hnext : next.reservation = next.state.reservation := by rw [hplace.reservation, law.tile x tile ht, hsame]
  have hheld := hone.held
  rw [hplace.reservation] at hheld
  exact law.of_changed (hone.byState hnext law.byState) hheld (Nat.add_sub_cancel _ _).symm law.places

/-- R40, R55: an armed tile reserves two places. -/
theorem arm_reservation {x : TileNo} {tile : Tile} (plate : Plate) (law : ReservationLaw s)
    (hroom : s.report.used + 2 ≤ 16) (ht : s.asm.tiles[x] = some tile) (hs : tile.state = .pending) :
    ReservationLaw (s.armedFor x plate tile) := by
  have hone := armedFor_oneTile plate ht
  have hbefore : tile.reservation = 0 := by rw [law.tile x tile ht, hs]; rfl
  have hnext : (s.armedTile tile).reservation = (s.armedTile tile).state.reservation := by
    rw [armedTile_state]
    rfl
  have hheld := hone.held
  rw [hbefore] at hheld
  exact law.of_changed (hone.byState hnext law.byState) hheld rfl hroom

/-- R40, R66: the places of an aborted tile are its TILE_FAULT's and one given up. -/
theorem abort_reservation {x : TileNo} {tile : Tile} {plate : Plate} (law : ReservationLaw s)
    (hc : s.currentTile = some (x, tile, plate)) (r : Reason) : ReservationLaw (s.abortToPending x tile r) := by
  obtain ⟨-, ht, -, ha⟩ := currentTile_some.1 hc
  have hone : OneTile s (s.abortToPending x tile r) x tile (tile.aborted r) := ⟨ht, rfl, rfl, rfl⟩
  have hbefore : tile.reservation = 2 := (law.tile x tile ht).trans (active_reservation ha)
  have hheld := hone.held
  rw [hbefore] at hheld
  refine law.of_spent (hone.byState rfl law.byState) hheld rfl ?_
  show (s.report.queue ++ [_]).length ≤ _
  rw [List.length_append, List.length_singleton]
  exact Nat.add_le_add_left one_le_two _

theorem close_reservation {x : TileNo} {tile next : Tile} {plate : Plate} (law : ReservationLaw s)
    (hc : s.currentTile = some (x, tile, plate)) (hplace : SamePlace tile next) {o : ClosingOutcome} (ho : o ≠ .discarded)
    (heat : Option Nat) : ReservationLaw (s.setTile x (some { next with state := .closing o heat })).leave := by
  obtain ⟨-, ht, -, ha⟩ := currentTile_some.1 hc
  have hone : OneTile s (s.setTile x (some { next with state := .closing o heat })).leave x tile
      { next with state := .closing o heat } := ⟨ht, rfl, rfl, hplace.place⟩
  have hbefore : tile.reservation = 2 := (law.tile x tile ht).trans (active_reservation ha)
  have hafter : next.reservation = 2 := hplace.reservation.trans hbefore
  have hheld := hone.held
  rw [hbefore] at hheld
  refine law.of_changed (hone.byState (hafter.trans (closing_reservation ho heat).symm) law.byState) hheld ?_ law.places
  rw [hafter]
  rfl

/-! ### Fence delivery (R32 to R34) -/

/-- A tile's end dismisses no plate. -/
theorem ended_dismissing (plate : Plate) (final : TileState) (row : Nat) (banded : Bool) :
    (∃ d f, (plate.ended final row banded).state = .dismissing d f) ↔ ∃ d f, plate.state = .dismissing d f := by
  simp only [Plate.ended]
  split
  · next hall =>
    have ha : plate.state = .assembling := by
      simp only [Plate.allFinal, Plate.countFinal, Bool.and_eq_true, beq_iff_eq] at hall
      exact hall.1
    simp [ha]
  · rfl

/-- R40: a tile that ends puts one record or two into its places. -/
theorem deliverFence_ends_reservation {x : TileNo} {tile : Tile} {o : ClosingOutcome} {heat : Option Nat}
    (law : AssemblyLaw s) (places : ReservationLaw s) (ht : s.asm.tiles[x] = some tile)
    (hs : tile.state = .closing o heat) (ho : o ≠ .discarded) : ReservationLaw (s.deliverFence x) := by
  obtain ⟨plate, hp, -⟩ := law.owned x tile ht
  obtain ⟨hasm, hreport, -⟩ := endTile_eq (t := x) (final := tile.finalFrom o)
    (tile.finalRecord plate.tag (heat.getD 0) (tile.finalFrom o)) hp
  rw [← deliverFence_ends ht hs ho hp] at hasm hreport
  have hboth : TileAndPlate s (s.deliverFence x) x tile { tile with state := tile.finalFrom o, reservation := 0 } plate
      (plate.ended (tile.finalFrom o) tile.row _) :=
    ⟨ht, hp, congrArg Assembly.plates hasm, congrArg Assembly.tiles hasm, rfl, rfl⟩
  have hbefore : tile.reservation = 2 := by rw [places.tile x tile ht, hs, closing_reservation ho]
  have hheld := hboth.held rfl
  rw [hbefore] at hheld
  refine places.of_spent (hboth.byState (finalFrom_reservation tile o).symm
    ((places.plate _ plate hp).trans (ended_dismissing ..).symm) places.byState) hheld (by rw [hreport]) ?_
  rw [hreport]
  simp only [List.length_append, List.length_singleton]
  split <;> simp

/-- The tiles of a DISMISSING plate with none CLOSING hold no places. -/
theorem dismissing_zero {p : SlotNo} {plate : Plate} (law : AssemblyLaw s) (places : ReservationLaw s)
    (hp : s.asm.plates[p] = some plate) (hs : plate.state ≠ .assembling) (hnone : s.noneClosing plate = true) :
    ∀ x ∈ plate.tiles, s.placesOf x = 0 := by
  intro x hx
  obtain ⟨tile, ht, rfl⟩ := (mem_tiles_iff law hp x).1 hx
  have hclosing : tile.isClosing = false := by
    simpa [State.tileIs, ht] using (noneClosing_iff s plate).1 hnone x hx
  have hactive : tile.active = false := Bool.eq_false_iff.2 fun ha => hs (law.busy x tile plate ht ha hp)
  rw [placesOf_some ht, places.tile x tile ht, quiet_reservation hactive hclosing]

/-- R41, R47: a DISMISSING plate with none CLOSING is FREE, its record in its place. -/
theorem freePlate_reservation {p : SlotNo} {plate : Plate} (places : ReservationLaw s)
    (hp : s.asm.plates[p] = some plate) {d f : Nat} (hs : plate.state = .dismissing d f) (hl : plate.tiles.Nodup)
    (hzero : ∀ x ∈ plate.tiles, s.placesOf x = 0) : ReservationLaw (s.freePlate p d f) := by
  obtain ⟨hplates, htiles, hreport, -⟩ := freePlate_of_plate d f hl hp
  have hmark : plate.dismissReserved = true := (places.plate p plate hp).2 ⟨d, f, hs⟩
  have hout : Outside s (s.freePlate p d f) p plate :=
    ⟨hp, fun q hq => (hplates q).trans (if_neg hq), fun x hx => (htiles x).trans (if_neg hx)⟩
  have hfree := (hplates p).trans (if_pos rfl)
  have hgone : ∀ x ∈ plate.tiles, (s.freePlate p d f).asm.tiles[x] = none := fun x hx => (htiles x).trans (if_pos hx)
  have hheld := freed_held hout hl hfree hgone hzero
  rw [hmark] at hheld
  refine places.of_spent (freed_byState hout hfree hgone places.byState) hheld (by rw [hreport]; rfl) ?_
  rw [hreport, List.length_append]
  exact le_refl _

/-- R34, R47: a DISCARDED tile holds no place, before and after. -/
theorem deliverFence_returns_reservation {x : TileNo} {tile : Tile} {heat : Option Nat} (law : AssemblyLaw s)
    (places : ReservationLaw s) (ht : s.asm.tiles[x] = some tile) (hs : tile.state = .closing .discarded heat) :
    ReservationLaw (s.deliverFence x) := by
  let u := s.setTile x (some tile.returned)
  have hone : OneTile s u x tile tile.returned := ⟨ht, rfl, rfl, rfl⟩
  have hzero : tile.reservation = 0 := by rw [places.tile x tile ht, hs]; rfl
  have hu : ReservationLaw u := places.of_changed (hone.byState hzero places.byState) hone.held
    (Nat.add_sub_cancel _ _).symm places.places
  have hlaw : AssemblyLaw u := returned_law law ht hs
  rw [deliverFence_returns ht hs]
  obtain ⟨plate, hp, -⟩ := hlaw.owned x tile.returned (setTile_self s x _)
  have hp' : u.asm.plates[tile.slot] = some plate := hp
  by_cases hfree : (∃ d f, plate.state = .dismissing d f) ∧ u.noneClosing plate = true
  · obtain ⟨⟨d, f, hd⟩, hnone⟩ := hfree
    have hne : plate.state ≠ .assembling := by
      rw [hd]
      exact PlateState.noConfusion
    rw [freeIfDone_dismissing hp' hd, if_pos hnone]
    exact freePlate_reservation hu hp' hd (tiles_nodup hlaw hp') (dismissing_zero hlaw hu hp' hne hnone)
  · rw [freeIfDone_keeps hp' (by simpa [or_iff_not_imp_left] using hfree)]
    exact hu

theorem deliverFence_reservation (x : TileNo) (law : AssemblyLaw s) (places : ReservationLaw s) :
    ReservationLaw (s.deliverFence x) := by
  cases ht : s.asm.tiles[x] with
  | none => simpa only [State.deliverFence, ht] using places
  | some tile =>
    cases hs : tile.state with
    | closing o heat =>
      by_cases ho : o = .discarded
      · subst ho
        exact deliverFence_returns_reservation law places ht hs
      · exact deliverFence_ends_reservation law places ht hs ho
    | _ => simpa only [State.deliverFence, ht, hs] using places

/-! ### Acceptance and RETAKE (R28, R42) -/

/-- A new plate and its PENDING tiles hold no places. -/
theorem acceptPlate_reservation {p : SlotNo} (ws : List Word) (law : ReservationLaw s) (hp : s.asm.plates[p] = none) :
    ReservationLaw (s.acceptPlate p ws) := by
  have h := acceptPlate_accepted ws hp
  have hl : (s.newPlate ws).tiles.Nodup := (freeTiles_nodup s).sublist (List.take_sublist _ _)
  have hnew : (s.acceptPlate p ws).asm.plates[p] = some (s.newPlate ws) := (h.plates p).trans (if_pos rfl)
  have htile : ∀ x ∈ (s.newPlate ws).tiles, ∃ i, (s.acceptPlate p ws).asm.tiles[x] =
      some (newTile p (geometryOf ws).cols i) := fun x hx => by
    obtain ⟨i, hi⟩ := List.mem_iff_getElem?.1 hx
    exact ⟨i, h.new i x hi⟩
  have hheld := heldPlaces_changed hl p h.old fun q hq => (h.plates q).trans (if_neg hq)
  have hbefore : ∀ x ∈ (s.newPlate ws).tiles, s.placesOf x = 0 := fun x hx => placesOf_none (mem_newPlate hx)
  have hafter : ∀ x ∈ (s.newPlate ws).tiles, (s.acceptPlate p ws).placesOf x = 0 := fun x hx => by
    obtain ⟨i, hi⟩ := htile x hx
    exact placesOf_some hi
  rw [sum_map_zero hbefore, sum_map_zero hafter, markOf_none hp, markOf_some hnew] at hheld
  have hreport : (s.acceptPlate p ws).report = s.report := by simp
  refine law.of_changed ⟨fun x tile ht => ?_, fun q plate hq => ?_⟩ hheld (by rw [hreport]; rfl)
    (by rw [hreport]; exact law.places)
  · by_cases hx : x ∈ (s.newPlate ws).tiles
    · obtain ⟨i, hi⟩ := htile x hx
      rw [hi] at ht
      cases ht
      rfl
    · rw [h.old x hx] at ht
      exact law.tile x tile ht
  · rw [h.plates] at hq
    split at hq
    · cases hq
      exact ⟨fun hmark => (Bool.false_ne_true hmark).elim, fun ⟨d, f, hd⟩ => PlateState.noConfusion hd⟩
    · exact law.plate q plate hq

/-- A retaken tile held no place, and holds none. -/
theorem acceptRetake_reservation {p : SlotNo} {plate : Plate} {x : TileNo} {tile : Tile} (law : AssemblyLaw s)
    (places : ReservationLaw s) (hp : s.asm.plates[p] = some plate)
    (hlive : plate.state = .assembling ∨ plate.state = .complete) (hmem : x ∈ plate.tiles)
    (ht : s.asm.tiles[x] = some tile) (hfinal : tile.final = true) : ReservationLaw (s.acceptRetake p x tile) := by
  obtain ⟨tile', ht', rfl⟩ := (mem_tiles_iff law hp x).1 hmem
  rw [ht] at ht'
  cases ht'
  obtain ⟨holds, hasm⟩ := acceptRetake_asm x tile hp
  have h : TileAndPlate s (s.acceptRetake tile.slot x tile) x tile tile.retaken plate
      { plate.retaken (tile.state == .done) with bandHolds := holds } :=
    ⟨ht, hp, congrArg Assembly.plates hasm, congrArg Assembly.tiles hasm, rfl, rfl⟩
  have hzero : tile.reservation = 0 := (places.tile x tile ht).trans (final_reservation hfinal)
  have hunmarked := places.byState.unmarked hp hlive
  have hmark : (plate.retaken (tile.state == .done)).dismissReserved = true ↔
      ∃ d f, (plate.retaken (tile.state == .done)).state = .dismissing d f :=
    ⟨fun hmark => (Bool.false_ne_true (hunmarked.symm.trans hmark)).elim, fun ⟨d, f, hd⟩ => PlateState.noConfusion hd⟩
  have hreport : (s.acceptRetake tile.slot x tile).report = s.report := by simp
  refine places.of_changed (h.byState hzero hmark places.byState) (h.held rfl) ?_ (by rw [hreport]; exact places.places)
  rw [hreport]
  exact (Nat.add_sub_cancel _ _).symm

/-! ### DISMISS (R41, R45, R46) -/

/-- R45: the place reserved for a COMPLETE plate takes its record at once. -/
theorem dismiss_complete_reservation {k : Take} {p : SlotNo} {plate : Plate} (law : AssemblyLaw s)
    (places : ReservationLaw s) (h : s.dismissReady = some (k, p, plate)) (hc : plate.state = .complete) :
    ReservationLaw (dismissReservation s) := by
  obtain ⟨-, -, -, hp, hroom⟩ := dismissReady_some h
  obtain ⟨hout, hfree, hgone, -, -, hreport⟩ := dismissed_complete h hc
  obtain ⟨placed, counted, -⟩ := (assemblyLaw_iff s).1 law
  obtain ⟨hsize, -⟩ := placed.sized p plate hp
  have hzero : ∀ x ∈ plate.tiles, s.placesOf x = 0 := fun x hx => by
    have hfinal := all_final_of_counts (counted p plate hp) hsize ((counted p plate hp).complete hc) x hx
    obtain ⟨tile, ht, hf⟩ := (Option.any_eq_true _ _).1 hfinal
    rw [placesOf_some ht, places.tile x tile ht, final_reservation hf]
  have hheld := freed_held hout (tiles_nodup law hp) hfree hgone hzero
  rw [places.byState.unmarked hp (.inr hc)] at hheld
  refine places.of_changed (b := 0) (freed_byState hout hfree hgone places.byState) hheld (by rw [hreport]; rfl) ?_
  rw [hreport]
  simp only [Report.used, List.length_append, List.length_singleton] at hroom ⊢
  omega

/-- A tile of a dismissed plate holds no place in the state that R46 leaves it. -/
theorem dropped_reservation {x : TileNo} {tile : Tile} (law : AssemblyLaw s) (ht : s.asm.tiles[x] = some tile) :
    (s.tileAfter x tile).dropped.state.reservation = 0 := by
  rw [dropped_tileAfter]
  split
  · split <;> rfl
  · next hcur =>
    have hactive : tile.active = false := Bool.eq_false_iff.2 fun ha =>
      hcur ((law.active x).1 (by rw [State.tileIs, ht, Option.any_some, ha]))
    unfold Tile.discard
    split
    · rfl
    · next hno =>
      have hclosing : tile.isClosing = false := by
        unfold Tile.isClosing
        split
        · next o heat hs => exact absurd hs (hno o heat)
        · rfl
      exact quiet_reservation hactive hclosing

/-- R40, R46: the tiles of the dismissed plate give up their places, and the plate holds one. -/
theorem Discarded.reservation {y : State} {p : SlotNo} {plate : Plate} (h : Discarded s y p plate)
    (law : AssemblyLaw s) (places : ReservationLaw s) (ha : plate.state = .assembling) :
    ReservationLaw y ∧ ∀ x ∈ plate.tiles, y.placesOf x = 0 := by
  have hp := h.outside.here
  have hzero : ∀ x ∈ plate.tiles, y.placesOf x = 0 := fun x hx => by
    obtain ⟨tile, -, hy⟩ := h.tiles x hx
    exact placesOf_some hy
  have hsum := heldPlaces_changed (tiles_nodup law hp) p h.outside.tiles h.outside.plates
  have hmark : (plate.dismissing { plate with dismissReserved := true }).dismissReserved = true := rfl
  rw [sum_map_zero hzero, markOf_some hp, places.byState.unmarked hp (.inl ha), markOf_some h.marked, hmark] at hsum
  have hstate : ByState y := h.outside.byState places.byState
    (fun x hx tile hy => by
      obtain ⟨before, ht, hafter⟩ := h.tiles x hx
      cases hafter.symm.trans hy
      exact (dropped_reservation law ht).symm)
    (fun pl hpl => by
      cases h.marked.symm.trans hpl
      exact ⟨fun _ => ⟨_, _, rfl⟩, fun _ => rfl⟩)
  exact ⟨places.of_changed hstate hsum h.reserved h.places, hzero⟩

theorem dismiss_assembling_reservation {k : Take} {p : SlotNo} {plate : Plate} (law : AssemblyLaw s)
    (places : ReservationLaw s) (h : s.dismissReady = some (k, p, plate)) (ha : plate.state = .assembling) :
    ReservationLaw (dismissReservation s) := by
  obtain ⟨y, heq, hy⟩ := dismissed_assembling law h ha
  obtain ⟨hlaw, hzero⟩ := hy.reservation law places ha
  rw [heq, freeIfDone_dismissing hy.marked rfl]
  refine (result_alike _ _ _ _).reservation ?_
  split
  · have hl : plate.tiles.Nodup := tiles_nodup law hy.outside.here
    exact freePlate_reservation hlaw hy.marked rfl hl hzero
  · exact hlaw

/-! ### Every move -/

theorem reset_reservation (lines : StageLines) (straps : BitVec 12) (s : State) :
    ReservationLaw (powerOnReset lines straps s) := by
  have htiles := reset_tiles lines straps s
  have hplates := reset_plates lines straps s
  refine ⟨?_, fun x tile ht => ?_, fun p plate hp => ?_, Nat.zero_le 16⟩
  · rw [heldPlaces_eq, sum_map_zero fun x _ => placesOf_none (htiles x), sum_map_zero fun p _ => markOf_none (hplates p)]
    rfl
  · rw [htiles] at ht
    cases ht
  · rw [hplates] at hp
    cases hp

theorem Move.reservation (law : AssemblyLaw s) (places : ReservationLaw s) (h : Move s t) : ReservationLaw t := by
  cases h with
  | alike h => exact h.reservation places
  | touch ht hplace hstate => exact touch_reservation places ht hplace hstate
  | arm _ hroom _ _ _ ht hs => exact arm_reservation _ places hroom ht hs
  | abort hc r => exact abort_reservation places hc r
  | close hc hplace ho heat => exact close_reservation places hc hplace ho heat
  | fence x => exact deliverFence_reservation x law places
  | plate hp _ _ _ => exact acceptPlate_reservation _ places hp
  | retake hp hlive hmem ht hfinal => exact acceptRetake_reservation law places hp hlive hmem ht hfinal
  | dismiss h =>
    rcases dismissReady_live law h with ha | hc
    · exact dismiss_assembling_reservation law places h ha
    · exact dismiss_complete_reservation law places h hc
  | unwatch _ => exact ⟨places.total, places.tile, places.plate, places.places⟩
  | reset lines straps => exact reset_reservation lines straps s

end

/-- Settles O58: a step is a chain of moves, and every move keeps the law of the tables and that of the places. -/
theorem everyStepKeepsTheReservationLaw : Obligations.EveryStepKeepsTheReservationLaw := by
  unfold Obligations.EveryStepKeepsTheReservationLaw
  intro s t law places h
  have hboth := (step_moves h).keeps (P := fun u => AssemblyLaw u ∧ ReservationLaw u)
    (fun hu move => ⟨move.assembly hu.left, move.reservation hu.left hu.right⟩) ⟨law, places⟩
  exact hboth.right

end Sys2Proof.Machine
end

section
/-! PROOFS. The stage and CUT (07, 08): encoder transitions (O46), home edges and the dwell (O47), CUT edges (O48). -/

namespace Sys2Proof.Machine

/-! ### CUT edges (8.7) -/

/-- R161: with CUT low the filtered level can rise. -/
theorem cutRise_low {s : State} (h : s.stage.cut.level = false) :
    cutRise s = ((s.setCut true).offer (.cutChange true s.lamp.heat)).abort .heat := by
  simp [cutRise, h]

theorem cutRise_high {s : State} (h : s.stage.cut.level = true) : cutRise s = s := by
  simp [cutRise, h]

/-- R163: with CUT high the filtered level can fall. -/
theorem cutFall_high {s : State} (h : s.stage.cut.level = true) :
    cutFall s = (s.setCut false).offer (.cutChange false s.lamp.heat) := by
  simp [cutFall, h]

theorem cutFall_low {s : State} (h : s.stage.cut.level = false) : cutFall s = s := by
  simp [cutFall, h]

/-- Settles O48, by the equation of each edge at each level. -/
theorem cutEdges : Obligations.CutEdges := by
  unfold Obligations.CutEdges
  exact fun s => ⟨fun h => exec_of_effect (cutRise_low h), fun h => exec_of_effect (cutRise_high h),
    fun h => exec_of_effect (cutFall_high h), fun h => exec_of_effect (cutFall_low h)⟩

/-! ### Quadrature decoding (7.3) -/

theorem setPos_pos (g : Stage) (ax : Axis) (p : BitVec 24) : (g.setPos ax p).pos ax = p := by
  cases ax <;> rfl

theorem takeRef_pos (g : Stage) (ax ax' : Axis) : (g.takeRef ax).pos ax' = g.pos ax' := by
  cases ax <;> rfl

theorem flip_pos (g : Stage) (ax ax' : Axis) (line : EncLine) : (g.flip ax line).pos ax' = g.pos ax' := by
  cases ax <;> cases line <;> rfl

theorem flip_ref (g : Stage) (ax : Axis) (line : EncLine) : (g.flip ax line).ref ax = g.ref ax := by
  cases ax <;> cases line <;> rfl

/-- One line of a pair changes. -/
def flipped (p : Bool × Bool) : EncLine → Bool × Bool
  | .a => (!p.1, p.2)
  | .b => (p.1, !p.2)

theorem flip_pair (g : Stage) (ax : Axis) (line : EncLine) : (g.flip ax line).pair ax = flipped (g.pair ax) line := by
  cases ax <;> cases line <;> rfl

/-- Table 7-2 at a change of A alone: forward from equal lines, backward from different ones. -/
theorem transition_a (p : Bool × Bool) :
    transition p (flipped p .a) = if p.1 == p.2 then .forward else .backward := by
  obtain ⟨a, b⟩ := p
  cases a <;> cases b <;> rfl

/-- Table 7-2 at a change of B alone: backward from equal lines, forward from different ones. -/
theorem transition_b (p : Bool × Bool) :
    transition p (flipped p .b) = if !(p.1 == p.2) then .forward else .backward := by
  obtain ⟨a, b⟩ := p
  cases a <;> cases b <;> rfl

/-- Table 7-2 at a change of both lines. -/
theorem transition_both (p : Bool × Bool) : transition p (flipped (flipped p .a) .b) = .invalid := by
  obtain ⟨a, b⟩ := p
  cases a <;> cases b <;> rfl

/-- A count on an axis with the tolerance check that follows it (R136, R144). -/
theorem decodeAxis_counts {s : State} {ax : Axis} {forward : Bool}
    (h : transition (s.stage.ref ax) (s.stage.pair ax) = if forward then .forward else .backward) :
    s.decodeAxis ax = (State.count ax (if forward then s.stage.pos ax + 1 else s.stage.pos ax - 1)
      { s with stage := s.stage.takeRef ax }).checkTolerance ax := by
  cases forward <;> simp only [State.decodeAxis, h, takeRef_pos] <;> rfl

theorem decodeAxis_invalid {s : State} {ax : Axis}
    (h : transition (s.stage.ref ax) (s.stage.pair ax) = .invalid) :
    s.decodeAxis ax =
      let a : State := { s with stage := s.stage.takeRef ax }
      if s.configured then (a.offer (.encoderFault ax (s.stage.pos ax))).abort .encoder else a := by
  simp only [State.decodeAxis, h, takeRef_pos]
  rfl

/-- The watched target on an axis. -/
def Watched.target (w : Watched) : Axis → BitVec 24
  | .x => w.x
  | .y => w.y

/-- R144: an axis exits when its position lies beyond the watched tolerance from the watched target. -/
theorem exits_iff (g : Stage) (ax : Axis) :
    g.exits ax = true ↔ ∃ w, g.watched = some w ∧ w.tolerance < (g.pos ax - w.target ax).toInt.natAbs := by
  unfold Stage.exits
  cases g.watched with
  | none => simp
  | some w => cases ax <;> simp [within, Stage.pos, Watched.target]

/-- The position counts modulo 2^24 (R138). -/
theorem toInt_add_one (p : BitVec 24) : (p + 1).toInt = if p.toInt = 8388607 then -8388608 else p.toInt + 1 := by
  have hlt := p.isLt
  simp only [BitVec.toInt_eq_toNat_cond, BitVec.toNat_add]
  split <;> split <;> split <;> simp at * <;> omega

theorem toInt_sub_one (p : BitVec 24) : (p - 1).toInt = if p.toInt = -8388608 then 8388607 else p.toInt - 1 := by
  have hlt := p.isLt
  simp only [BitVec.toInt_eq_toNat_cond, BitVec.toNat_sub]
  split <;> split <;> split <;> simp at * <;> omega

/-- A change of one line counts 1 on its axis (R136). -/
theorem validTransition_counts {s : State} {ax : Axis} {line : EncLine} {forward : Bool}
    (href : s.stage.ref ax = s.stage.pair ax)
    (h : transition (s.stage.pair ax) (flipped (s.stage.pair ax) line) = if forward then .forward else .backward) :
    validTransition ax line s =
      (State.count ax (if forward then s.stage.pos ax + 1 else s.stage.pos ax - 1)
        { s with stage := (s.stage.flip ax line).takeRef ax }).checkTolerance ax := by
  rw [validTransition, decodeAxis_counts (forward := forward) (by rw [flip_ref, href, flip_pair, h]), flip_pos]

/-- The tolerance check of a count reads the new position and the watched target (R144). -/
theorem count_exits_iff (s : State) (ax : Axis) (p : BitVec 24) :
    (s.count ax p).stage.exits ax = true ↔
      ∃ w, s.stage.watched = some w ∧ w.tolerance < (p - w.target ax).toInt.natAbs := by
  have hpos : (s.count ax p).stage.pos ax = p := setPos_pos s.stage ax p
  have hwatched : (s.count ax p).stage.watched = s.stage.watched := setPos_watched s.stage ax p
  rw [exits_iff, hpos, hwatched]

/-- Both lines of an axis change: the count stays, and the reference follows (R137). -/
theorem invalidTransition_eq {s : State} {ax : Axis} (href : s.stage.ref ax = s.stage.pair ax) :
    let a : State := { s with stage := ((s.stage.flip ax .a).flip ax .b).takeRef ax }
    invalidTransition ax s =
      if s.configured then (a.offer (.encoderFault ax (s.stage.pos ax))).abort .encoder else a := by
  have hinvalid : transition (((s.stage.flip ax .a).flip ax .b).ref ax) (((s.stage.flip ax .a).flip ax .b).pair ax)
      = .invalid := by
    rw [flip_ref, flip_ref, href, flip_pair, flip_pair]
    exact transition_both _
  rw [invalidTransition, decodeAxis_invalid hinvalid, flip_pos, flip_pos]
  rfl

/-- Settles O46: `transition_a`, `transition_b` and `transition_both` give the direction, `validTransition_counts` and
`invalidTransition_eq` the state that it leads to. -/
theorem encoderTransitions : Obligations.EncoderTransitions := by
  unfold Obligations.EncoderTransitions
  refine ⟨⟨fun s ax line href => ?_, fun p => ⟨toInt_add_one p, toInt_sub_one p⟩⟩, fun s ax href => ?_⟩
  · intro lead forward p g a beyond
    have hdirection : transition (s.stage.pair ax) (flipped (s.stage.pair ax) line)
        = if forward then .forward else .backward := by
      cases line with
      | a => exact transition_a _
      | b => exact transition_b _
    have heffect : validTransition ax line s = a.checkTolerance ax := validTransition_counts href hdirection
    have hwatched : ((s.stage.flip ax line).takeRef ax).watched = s.stage.watched :=
      (takeRef_watched _ ax).trans (flip_watched s.stage ax line)
    have hexit : a.stage.exits ax = true ↔ beyond := by
      refine (count_exits_iff { s with stage := (s.stage.flip ax line).takeRef ax } ax p).trans ?_
      rw [hwatched]
      rfl
    refine ⟨fun h => exec_of_effect (heffect.trans ?_), fun h => exec_of_effect (heffect.trans ?_)⟩
    · exact if_neg (mt hexit.1 h)
    · exact if_pos (hexit.2 h)
  · intro a
    refine ⟨fun h => exec_of_effect ((invalidTransition_eq href).trans (if_neg ?_)),
      fun h => exec_of_effect ((invalidTransition_eq href).trans (if_pos h))⟩
    simp [State.configured, h]

/-! ### Home edges and the dwell (7.4) -/

theorem setHome_pos (g : Stage) (ax ax' : Axis) (b : Bool) : (g.setHome ax b).pos ax' = g.pos ax' := by
  cases ax <;> rfl

/-- A rising home edge (R139): the axis is zeroed, the dwell restarts when the count was not 0, and a tile is aborted. -/
theorem homeEdge_rises {s : State} {ax : Axis} (h : (s.stage.home ax).level = false) :
    homeEdge ax s = State.abort .homed { s with
      stage :=
        if s.stage.pos ax = 0 then s.stage.setHome ax true
        else { (s.stage.setHome ax true).setPos ax 0 with
          dwell := if s.plan.station.map (·.dwell) = some 0 then none else some 0 } } := by
  simp only [homeEdge, h, setHome_pos, Bool.false_eq_true, if_false]
  split <;> rfl

theorem homeEdge_high {s : State} {ax : Axis} (h : (s.stage.home ax).level = true) : homeEdge ax s = s := by
  simp [homeEdge, h]

theorem fallingHomeEdge_high {s : State} {ax : Axis} (h : (s.stage.home ax).level = true) :
    fallingHomeEdge ax s = { s with stage := s.stage.setHome ax false } := by
  simp [fallingHomeEdge, h]

theorem fallingHomeEdge_low {s : State} {ax : Axis} (h : (s.stage.home ax).level = false) :
    fallingHomeEdge ax s = s := by
  simp [fallingHomeEdge, h]

theorem dwellExpiry_configured {s : State} (h : s.plan.station.isSome = true) :
    dwellExpiry s = { s with stage := { s.stage with dwell := none } } := by
  simp [dwellExpiry, State.configured, h]

theorem dwellExpiry_unconfigured {s : State} (h : s.plan.station = none) : dwellExpiry s = s := by
  simp [dwellExpiry, State.configured, h]

/-- Settles O47, by the equation of each edge at each level and of the expiry. -/
theorem homeEdgesAndDwell : Obligations.HomeEdgesAndDwell := by
  unfold Obligations.HomeEdgesAndDwell
  exact ⟨fun s ax => ⟨fun h => exec_of_effect (homeEdge_rises h), fun h => exec_of_effect (homeEdge_high h),
      fun h => exec_of_effect (fallingHomeEdge_high h), fun h => exec_of_effect (fallingHomeEdge_low h)⟩,
    fun s => ⟨fun h => exec_of_effect (dwellExpiry_configured h), fun h => exec_of_effect (dwellExpiry_unconfigured h),
      by simp [Stage.settled]⟩⟩

end Sys2Proof.Machine
end

section
/-! PROOFS. The lamp (03, 08): period end, latch and turn-off (O42), turn-on in an arming (O41), and the 1 ms tick (O49). -/

namespace Sys2Proof.Machine

/-! ### The latch into SETTLING (3.3) -/

/-- A latched tile is SETTLING, its settle timer started. -/
def State.settlingFor (t : TileNo) (tile : Tile) (s : State) : State :=
  { s.setTile t (some { tile with state := .settling }) with
    seq := { s.seq with settleTimer := some { value := 0, limit := s.setting (·.settleTime) } } }

/-- A latched tile is SETTLING with its settle time over and TRIG still high (R61). -/
def State.deferredFor (t : TileNo) (tile : Tile) (s : State) : State :=
  { s.setTile t (some { tile with state := .settling }) with
    seq := { s.seq with settleTimer := none, deferred := true } }

/-- R57, R59: the latch makes the tile SETTLING, and with a settle time of 0 its expiry is taken in the same step. -/
theorem enterSettling_eq (s : State) (t : TileNo) (tile : Tile) :
    s.enterSettling t tile =
      if s.setting (·.settleTime) = 0 then (s.settlingFor t tile).settleExpires t { tile with state := .settling }
      else s.settlingFor t tile := rfl

theorem enterSettling_timed {s : State} (t : TileNo) (tile : Tile) (h : 0 < s.setting (·.settleTime)) :
    s.enterSettling t tile = s.settlingFor t tile :=
  (enterSettling_eq s t tile).trans (if_neg h.ne')

/-- R59, R60: with a settle time of 0 and TRIG low the exposure starts at the latch. -/
theorem enterSettling_exposes {s : State} (t : TileNo) (tile : Tile) (h : s.setting (·.settleTime) = 0)
    (htrig : s.seq.trig = false) : s.enterSettling t tile = s.exposing t tile := by
  have hstart : (s.settlingFor t tile).settleExpires t { tile with state := .settling }
      = (s.settlingFor t tile).exposing t { tile with state := .settling } := by
    rw [State.settleExpires, State.settlingFor, htrig]
    rfl
  rw [enterSettling_eq, if_pos h, hstart]
  simp [State.exposing, State.settlingFor, State.setting]

theorem enterSettling_defers {s : State} (t : TileNo) (tile : Tile) (h : s.setting (·.settleTime) = 0)
    (htrig : s.seq.trig = true) : s.enterSettling t tile = s.deferredFor t tile := by
  have hdefer : (s.settlingFor t tile).settleExpires t { tile with state := .settling } = s.deferredFor t tile := by
    rw [State.settleExpires, State.settlingFor, htrig]
    rfl
  rw [enterSettling_eq, if_pos h, hdefer]

/-- R155: the three conditions of the latch event. -/
theorem latches_iff (s : State) (tile : Tile) :
    s.latches tile = true ↔ s.lamp.zone = .cool ∧ tile.state = .armed ∧ s.lamp.fromTile = true := by
  simp [State.latches, and_assoc]

theorem latch_latches {s : State} {t : TileNo} {tile : Tile} {plate : Plate}
    (hc : s.currentTile = some (t, tile, plate)) (hz : s.lamp.zone = .cool) (ha : tile.state = .armed)
    (hf : s.lamp.fromTile = true) : s.latch = s.enterSettling t tile := by
  simp [State.latch, hc, (latches_iff s tile).2 ⟨hz, ha, hf⟩]

theorem latch_waits {s : State} (h : s.lamp.zone = .warm ∨ s.lamp.fromTile = false
    ∨ ∀ t tile plate, s.currentTile = some (t, tile, plate) → tile.state ≠ .armed) : s.latch = s := by
  unfold State.latch
  split
  · rfl
  next t tile plate hc =>
  refine if_neg fun hl => ?_
  obtain ⟨hz, ha, hf⟩ := (latches_iff s tile).1 hl
  rcases h with h | h | h
  · exact absurd (hz.symm.trans h) (by decide)
  · exact absurd (hf.symm.trans h) (by decide)
  · exact h t tile plate hc ha

/-! ### Period end and turn-off (8.2) -/

theorem periodEnd_on {s : State} (h : s.lamp.on = true) : periodEnd s = s.applyRequest.latch := by
  simp [periodEnd, h]

theorem periodEnd_off {s : State} (h : s.lamp.on = false) : periodEnd s = s := by
  simp [periodEnd, h]

/-- R151: the lamp is OFF, its counter and its idle timer at 0. -/
def State.turnedOff (s : State) : State :=
  { s with lamp := { s.lamp with on := false, counter := 0, idleTimer := 0 } }

theorem idleTimerExpiry_due {s : State} {st : Station} (hst : s.plan.station = some st) (hidle : 0 < st.idleTime)
    (hon : s.lamp.on = true) (hc : s.seq.current = none) : idleTimerExpiry s = s.turnedOff := by
  simp [idleTimerExpiry, hst, hidle, hon, hc, State.turnedOff]

theorem idleTimerExpiry_stays {s : State}
    (h : ¬∃ st, s.plan.station = some st ∧ 0 < st.idleTime ∧ s.lamp.on = true ∧ s.seq.current = none) :
    idleTimerExpiry s = s := by
  unfold idleTimerExpiry
  split
  · rfl
  next st hst =>
  refine if_neg fun hdue => h ⟨st, hst, ?_⟩
  simp only [Bool.and_eq_true, Option.isNone_iff_eq_none, decide_eq_true_eq] at hdue
  obtain ⟨⟨hon, hc⟩, hidle⟩ := hdue
  exact ⟨hidle, hon, hc⟩

/-- Settles O42: a period end applies the request and then latches or not, in one of the three ways of `enterSettling`. -/
theorem periodEndAndTurnOff : Obligations.PeriodEndAndTurnOff := by
  unfold Obligations.PeriodEndAndTurnOff
  refine ⟨fun s => ?_, fun s => ⟨?_, fun h => exec_of_effect (idleTimerExpiry_stays h)⟩⟩
  · refine ⟨fun h => exec_of_effect (periodEnd_off h), fun hon h => exec_of_effect ?_, ?_⟩
    · exact (periodEnd_on hon).trans (latch_waits (s := s.applyRequest) h)
    · intro t tile plate hon hz hf hc ha settling
      have hlatch : periodEnd s = s.applyRequest.enterSettling t tile :=
        (periodEnd_on hon).trans (latch_latches (s := s.applyRequest) hc hz ha hf)
      exact ⟨fun h => exec_of_effect (hlatch.trans (enterSettling_timed t tile h)),
        fun h ht => exec_of_effect (hlatch.trans (enterSettling_exposes t tile h ht)),
        fun h ht => exec_of_effect (hlatch.trans (enterSettling_defers t tile h ht))⟩
  · rintro ⟨st, hst, hidle, hon, hc⟩
    exact exec_of_effect (idleTimerExpiry_due hst hidle hon hc)

/-! ### Turn-on in an arming (3.2, 8.2) -/

/-- An arming that finds the lamp OFF turns it ON (R55, R150). -/
theorem armTile_lampOff {s : State} (t : TileNo) (plate : Plate) (tile : Tile) (h : s.lamp.on = false) :
    s.armTile t plate tile = (s.armedFor t plate tile).offerStray.turnOn := by
  let u : State := { s.armedFor t plate tile with lamp := s.lamp }
  have harm : s.armTile t plate tile =
      (let v : State := { u.offerStray with lamp := { u.offerStray.lamp with idleTimer := 0 } }
       if v.lamp.on then v else v.turnOn) := rfl
  have hl : u.offerStray.lamp = s.lamp := by simp [u]
  rw [harm, hl, ← offerStray_withLamp]
  exact if_neg (by simp [h])

theorem offerStray_stray (s : State) : s.offerStray.merge.stray = 0 := by
  by_cases h : s.merge.stray = 0
  · rw [offerStray_zero h, h]
  · rw [offerStray_pos h]

/-- The lamp has turned ON with a request, applied at once, and its first period begins (R150). -/
def State.lit (duty : Nat) (fromTile : Bool) (s : State) : State :=
  { s with lamp := { s.lamp with
      on := true, idleTimer := 0, requested := duty, fromTile := fromTile
      applied := duty, counter := 0, period := s.setting (·.pwmPeriod) } }

/-- The lamp is ON, its request not formed yet. -/
def State.lampOn (s : State) : State := { s with lamp := { s.lamp with on := true, idleTimer := 0 } }

theorem turnOn_eq (s : State) : s.turnOn = (s.lit s.lampOn.requestNow.1 s.lampOn.requestNow.2).latch := rfl

/-- Line 2 of Table 8-2 for a tile that is ARMED in a COOL zone. -/
theorem requestNow_armed_cool {s : State} {t : TileNo} {tile : Tile} {plate : Plate} {x : Exposure}
    (hcut : s.stage.cut.level = false) (hc : s.currentTile = some (t, tile, plate)) (ha : tile.state = .armed)
    (hz : s.lamp.zone = .cool) (hx : plate.bracket[tile.expIndex]? = some x) : s.requestNow = (x.duty, true) := by
  simp [State.requestNow, hcut, State.tileDuty, hc, ha, hz, hx]

/-- Line 3 of Table 8-2: a tile that is ARMED in a WARM zone asks for nothing. -/
theorem requestNow_armed_warm {s : State} {t : TileNo} {tile : Tile} {plate : Plate}
    (hcut : s.stage.cut.level = false) (hc : s.currentTile = some (t, tile, plate)) (ha : tile.state = .armed)
    (hz : s.lamp.zone = .warm) (hon : s.lamp.on = true) : s.requestNow = (s.setting (·.idleDuty), false) := by
  simp [State.requestNow, hcut, State.tileDuty, hc, ha, hz, hon]

/-- A turn-on that finds the zone COOL latches the tile's duty at once (R57, R155). -/
theorem turnOn_cool {s : State} {t : TileNo} {tile : Tile} {plate : Plate} {x : Exposure}
    (hcut : s.stage.cut.level = false) (hc : s.currentTile = some (t, tile, plate)) (ha : tile.state = .armed)
    (hz : s.lamp.zone = .cool) (hx : plate.bracket[tile.expIndex]? = some x) :
    s.turnOn = (s.lit x.duty true).enterSettling t tile := by
  rw [turnOn_eq, requestNow_armed_cool (s := s.lampOn) hcut hc ha hz hx]
  exact latch_latches (s := s.lit x.duty true) hc hz ha rfl

theorem turnOn_warm {s : State} {t : TileNo} {tile : Tile} {plate : Plate}
    (hcut : s.stage.cut.level = false) (hc : s.currentTile = some (t, tile, plate)) (ha : tile.state = .armed)
    (hz : s.lamp.zone = .warm) : s.turnOn = s.lit (s.setting (·.idleDuty)) false := by
  rw [turnOn_eq, requestNow_armed_warm (s := s.lampOn) hcut hc ha hz rfl]
  exact latch_waits (s := s.lit _ false) (.inl hz)

/-- What a latch leaves of the sequencer and the Merge Unit. -/
theorem latch_keeps (s : State) :
    s.latch.seq.current = s.seq.current ∧ s.latch.seq.moveok = s.seq.moveok ∧ s.latch.merge.stray = s.merge.stray := by
  unfold State.latch
  split
  · simp
  split
  · next t tile _ _ _ =>
    by_cases hz : s.setting (·.settleTime) = 0
    · cases ht : s.seq.trig with
      | false => simp [enterSettling_exposes t tile hz ht, State.exposing]
      | true => simp [enterSettling_defers t tile hz ht, State.deferredFor]
    · simp [enterSettling_timed t tile (Nat.pos_of_ne_zero hz), State.settlingFor]
  · simp

/-- The armed tile is the sequencer's, on its plate. -/
theorem armedFor_currentTile {s : State} (t : TileNo) {plate : Plate} {tile : Tile}
    (hp : s.asm.plates[tile.slot] = some plate) :
    (s.armedFor t plate tile).offerStray.currentTile = some (t, s.armedTile tile, plate) := by
  have hslot : (s.armedTile tile).slot = tile.slot := by rw [State.armedTile, arm_eq]
  have hplates : (s.armedFor t plate tile).offerStray.asm.plates = s.asm.plates := by
    simp [State.armedFor]
  refine currentTile_some.2 ⟨by simp [State.armedFor], ?_, by simpa only [hslot, hplates] using hp, ?_⟩
  · simp [State.armedFor, State.armedTile]
  · simp only [Tile.active, armedTile_state]

/-- Settles O41: `turnOn_cool` latches the tile in one of the three ways of `enterSettling`, `turnOn_warm` leaves it
ARMED. -/
theorem armingTurnsTheLampOn : Obligations.ArmingTurnsTheLampOn := by
  unfold Obligations.ArmingTurnsTheLampOn
  intro s st t plate tile x hmay hcand hp ht hst hon hx x0
  obtain ⟨-, -, hcut, -, -⟩ := (mayArm_iff s).1 hmay
  have harmed := armedTile_state s tile
  have hc := armedFor_currentTile t hp
  have harming := (arming_candidate hmay hcand ht).trans (armTile_lampOff t plate tile hon)
  have hstray := offerStray_stray (s.armedFor t plate tile)
  have hseq : (s.armedFor t plate tile).offerStray.seq = { s.seq with current := some t, moveok := false } := by
    simp [State.armedFor]
  have hzone : (s.armedFor t plate tile).offerStray.lamp.zone = s.lamp.zone := by simp [State.armedFor]
  have hvcut : (s.armedFor t plate tile).offerStray.stage.cut.level = false := by simpa [State.armedFor] using hcut
  have hset : ∀ f, (s.armedFor t plate tile).offerStray.setting f = f st := by simp [State.setting, State.armedFor, hst]
  have htile : (s.armedFor t plate tile).offerStray.asm.tiles[t] = some (s.armedTile tile) := by
    simp [State.armedFor, State.armedTile]
  generalize (s.armedFor t plate tile).offerStray = v at *
  obtain ⟨hcur, hmove, hkept⟩ := latch_keeps (v.lit v.lampOn.requestNow.1 v.lampOn.requestNow.2)
  rw [← turnOn_eq, State.lit] at hcur hmove hkept
  refine ⟨v.turnOn, exec_of_effect harming, by simp [turnOn_eq, State.lit], by simp [turnOn_eq, State.lit],
    by simp [turnOn_eq, State.lit, hset], by simp [turnOn_eq, State.lit], by rw [hcur, hseq], by rw [hmove, hseq],
    hkept.trans hstray, fun hz => ?_, fun hz => ?_⟩
  · have hx0 : ∀ state, some { s.armedTile tile with state := state } = some (x0 state) := fun state => by
      simp [State.armedTile, arm_eq, x0, hz]
    rw [turnOn_cool hvcut hc harmed (hzone.trans hz) (by simpa only [State.armedTile, arm_eq] using hx)]
    refine ⟨by simp [State.lit], fun hpos => ?_, fun hzero htrig => ?_, fun hzero htrig => ?_⟩
    · rw [enterSettling_timed (s := v.lit x.duty true) t _ ((hset _).symm ▸ hpos)]
      exact ⟨congrArg (fun n => some (Timer.mk 0 n)) (hset _), (setTile_self _ t _).trans (hx0 _)⟩
    · rw [enterSettling_exposes (s := v.lit x.duty true) t _ ((hset _).trans hzero) ((congrArg Seq.trig hseq).trans htrig)]
      exact ⟨rfl, rfl, (setTile_self _ t _).trans (hx0 _)⟩
    · rw [enterSettling_defers (s := v.lit x.duty true) t _ ((hset _).trans hzero) ((congrArg Seq.trig hseq).trans htrig)]
      exact ⟨rfl, (setTile_self _ t _).trans (hx0 _)⟩
  · rw [turnOn_warm hvcut hc harmed (hzone.trans hz)]
    refine ⟨hset _, (congrArg Seq.settleTimer hseq :), htile.trans ?_⟩
    simp [State.armedTile, arm_eq, hz]

/-! ### The 1 ms tick (8.2, 8.6) -/

/-- A of R158: the applied duty while the lamp is ON and CUT low. -/
theorem heatInput_eq (s : State) :
    s.heatInput = if s.lamp.on = true ∧ s.stage.cut.level = false then s.lamp.applied else 0 := by
  simp [State.heatInput]

/-- The heat value and the zone after a 1 ms tick (R158, R159). -/
def State.heated (st : Station) (s : State) : State :=
  { s with lamp := { s.lamp with
      heat := nextHeat s.lamp.heat st.decay s.heatInput
      zone := zoneNow st s.lamp.zone (nextHeat s.lamp.heat st.decay s.heatInput) } }

theorem heatStep_unconfigured {s : State} (h : s.plan.station = none) : heatStep s = s := by
  simp [heatStep, h]

/-- A tick that turns the zone from COOL to WARM while a tile is ARMED is a heat wait of that tile (R56). -/
theorem heatStep_waits {s : State} {st : Station} {t : TileNo} {tile : Tile} (hst : s.plan.station = some st)
    (hc : s.seq.current = some t) (ht : s.asm.tiles[t] = some tile) (ha : tile.state = .armed)
    (hz : s.lamp.zone = .cool) (hw : (s.heated st).lamp.zone = .warm) :
    heatStep s = (s.heated st).setTile t (some tile.countHeatWait) := by
  have htile : s.tileIs (·.state == .armed) t = true := by simp [State.tileIs, ht, ha]
  have hjudge : heatStep s =
      if s.lamp.zone = .cool ∧ (s.heated st).lamp.zone = .warm ∧ s.tileIs (·.state == .armed) t = true
      then (s.heated st).modTile t Tile.countHeatWait else s.heated st := by
    simp only [heatStep, hst, State.judgeZone, hc]
    rfl
  have hmod : (s.heated st).modTile t Tile.countHeatWait = (s.heated st).setTile t (some tile.countHeatWait) :=
    congrArg (fun x : Option Tile => (s.heated st).setTile t (x.map Tile.countHeatWait)) ht
  rw [hjudge, if_pos ⟨hz, hw, htile⟩, hmod]

/-- Otherwise only the heat value and the zone change. -/
theorem heatStep_quiet {s : State} {st : Station} (hst : s.plan.station = some st)
    (h : ¬∃ t tile, s.seq.current = some t ∧ s.asm.tiles[t] = some tile ∧ tile.state = .armed
      ∧ s.lamp.zone = .cool ∧ (s.heated st).lamp.zone = .warm) : heatStep s = s.heated st := by
  simp only [heatStep, hst, State.judgeZone]
  split
  · rfl
  next t hc =>
  refine if_neg fun ⟨hz, hw, htile⟩ => h ?_
  obtain ⟨tile, ht, ha⟩ := (Option.any_eq_true _ _).1 htile
  exact ⟨t, tile, hc, ht, beq_iff_eq.1 ha, hz, hw⟩

/-- The idle timer has counted a 1 ms tick (R151). -/
def State.idleCounted (s : State) : State :=
  { s with lamp := { s.lamp with idleTimer := min 255000 (s.lamp.idleTimer + 1) } }

theorem msTick_runs {s : State} (hon : s.lamp.on = true) (hc : s.seq.current = none) : s.msTick = s.idleCounted :=
  if_pos (by simp [hon, hc])

theorem msTick_stands {s : State} (h : ¬(s.lamp.on = true ∧ s.seq.current = none)) : s.msTick = s :=
  if_neg (by simpa using h)

/-- R151: the turn-off is due. -/
theorem idleDue_iff (s : State) :
    s.idleDue = true ↔ 0 < s.setting (·.idleTime) ∧ s.setting (·.idleTime) * 1000 ≤ s.lamp.idleTimer
      ∧ s.lamp.on = true ∧ s.seq.current = none := by
  simp [State.idleDue, and_assoc]

theorem setting_of_station {s : State} {st : Station} (h : s.plan.station = some st) (f : Station → Nat) :
    s.setting f = f st := by
  simp [State.setting, h]

theorem heatTick_unconfigured {s : State} (h : s.plan.station = none) : heatTick s = s := by
  simp [heatTick, h]

theorem heatTick_stays {s : State} {st : Station} (hst : s.plan.station = some st) (h : s.msTick.idleDue = false) :
    heatTick s = heatStep s.msTick := by
  simp [heatTick, hst, h]

/-- With the turn-off due, the heat model's part comes before it or after it (log entry 2). -/
theorem heatTick_turnsOff {s : State} {st : Station} (hst : s.plan.station = some st) (h : s.msTick.idleDue = true) :
    heatTick s = idleTimerExpiry (heatStep (s.msTick.draw 1))
      ∨ heatTick s = heatStep (idleTimerExpiry (s.msTick.draw 1)) := by
  simp only [heatTick, hst, h, if_true]
  split
  · exact .inl rfl
  · exact .inr rfl

theorem judgeZone_on (s : State) : s.judgeZone.lamp.on = s.lamp.on := by
  unfold State.judgeZone
  split
  · rfl
  simp only []
  split
  · rfl
  · split <;> rfl

/-- The heat model leaves the lamp's power state. -/
theorem heatStep_on (s : State) : (heatStep s).lamp.on = s.lamp.on := by
  unfold heatStep
  split
  · rfl
  · exact judgeZone_on _

/-- Settles O49: the heat model's part by `heatStep_quiet` and `heatStep_waits`, the idle timer's by `msTick_runs` and
`heatTick_turnsOff`. -/
theorem heatTickFollowsTheModel : Obligations.HeatTickFollowsTheModel := by
  unfold Obligations.HeatTickFollowsTheModel
  refine ⟨fun s h => ⟨exec_of_effect (heatTick_unconfigured h), heatStep_unconfigured h⟩, ?_, ?_⟩
  · intro s st hst input heat zone a waits
    have ha : s.heated st = a := by
      simp only [State.heated, heatInput_eq]
      rfl
    have hzone : (s.heated st).lamp.zone = zone := congrArg (·.lamp.zone) ha
    refine ⟨fun h => (heatStep_quiet hst (by rwa [hzone])).trans ha, fun t tile hc ht hstate hz hw => ?_⟩
    exact (heatStep_waits hst hc ht hstate hz (hzone.trans hw)).trans (congrArg (State.setTile t _) ha)
  · intro s st hst runs count off u
    have hset := setting_of_station (s := u) hst (·.idleTime)
    refine ⟨fun h => exec_of_effect ?_, fun h hlow => exec_of_effect ?_, fun h hpos hhigh => ?_⟩
    · have hmt := msTick_stands h
      have hdue : s.msTick.idleDue = false := by
        rw [← Bool.not_eq_true, idleDue_iff, hmt]
        exact fun ⟨_, _, hon, hc⟩ => h ⟨hon, hc⟩
      exact (heatTick_stays hst hdue).trans (congrArg heatStep hmt)
    · have hmt : s.msTick = u := msTick_runs h.1 h.2
      have hdue : s.msTick.idleDue = false := by
        rw [← Bool.not_eq_true, idleDue_iff, hmt, hset]
        rintro ⟨hpos, hreached, -⟩
        have hreached : st.idleTime * 1000 ≤ count := hreached
        omega
      exact (heatTick_stays hst hdue).trans (congrArg heatStep hmt)
    · obtain ⟨hon, hc⟩ := h
      have hmt : s.msTick = u := msTick_runs hon hc
      have hdue : s.msTick.idleDue = true := by
        rw [idleDue_iff, hmt, hset]
        exact ⟨hpos, hhigh, hon, hc⟩
      rcases heatTick_turnsOff hst hdue with h | h
      · refine .inl (exec_of_effect (h.trans ?_))
        rw [hmt]
        exact idleTimerExpiry_due (by simpa using hst) hpos ((heatStep_on _).trans hon) (by simpa using hc)
      · refine .inr (exec_of_effect (h.trans (congrArg heatStep ?_)))
        rw [hmt]
        exact idleTimerExpiry_due (s := u.draw 1) hst hpos hon hc

end Sys2Proof.Machine
end

section
/-! PROOFS. The clock (0.6, 7.2): what a CLK cycle counts (O51), what is due after it and that the cycle takes it (O52). -/

namespace Sys2Proof.Machine

/-! ### Ticks and dividers (0.6, R178) -/

theorem ticks_unconfigured {s : State} (h : s.plan.station = none) : s.ticks = ⟨false, false, false⟩ := by
  simp [State.ticks, h]

theorem ticks_configured {s : State} {st : Station} (h : s.plan.station = some st) :
    (s.ticks.us = true ↔ st.divisor ≤ s.clock.us + 1)
    ∧ (s.ticks.ms = true ↔ s.ticks.us = true ∧ 1000 ≤ s.clock.ms + 1)
    ∧ (s.ticks.lamp = true ↔ st.prescale ≤ s.clock.lampDiv + 1) := by
  simp [State.ticks, h]

/-- The dividers after a CLK cycle of a CONFIGURED part. -/
def Clock.counted (k : Ticks) (c : Clock) : Clock :=
  { us := if k.us = true then 0 else c.us + 1
    ms := if k.ms = true then 0 else if k.us = true then c.ms + 1 else c.ms
    lampDiv := if k.lamp = true then 0 else c.lampDiv + 1
    draws := c.draws }

theorem countClk_eq (k : Ticks) (s : State) :
    s.countClk k = { s with clock := if s.plan.station = none then s.clock else s.clock.counted k } := by
  by_cases h : s.plan.station = none
  · simp [State.countClk, State.configured, h]
  · simp [State.countClk, State.configured, Option.isSome_iff_ne_none.2 h, h, Clock.counted]

/-! ### What each tick counts -/

/-- The timers of the sequencer after a CLK cycle with or without a 1 µs tick (R59, R61, R62). -/
def Seq.counted (us : Bool) (q : Seq) : Seq :=
  { q with
    settleTimer := if us = true then q.settleTimer.map Timer.tick else q.settleTimer
    pulseTimer := if us = true then q.pulseTimer.map Timer.tick else q.pulseTimer
    expTimer := if us = true ∧ q.captureHeld = false then q.expTimer.map Timer.tick else q.expTimer }

theorem usTick_counts (us : Bool) (s : State) :
    (if us then s.usTick else s) = { s with
      seq := s.seq.counted us
      stage := { s.stage with dwell := if us = true then s.stage.dwell.map (· + 1) else s.stage.dwell }
      hold := { s.hold with
        queue := if us = true then s.hold.queue.map fun r => { r with timer := r.timer.tick } else s.hold.queue } } := by
  cases us with
  | false => rfl
  | true => cases h : s.seq.captureHeld <;> simp [State.usTick, Seq.counted, h]

theorem msTick_counts (ms : Bool) (s : State) :
    (if ms then s.msTick else s) = { s with lamp := { s.lamp with
      idleTimer := if ms = true ∧ s.lamp.on = true ∧ s.seq.current = none then min 255000 (s.lamp.idleTimer + 1)
        else s.lamp.idleTimer } } := by
  cases ms with
  | false => rfl
  | true =>
    by_cases h : s.lamp.on = true ∧ s.seq.current = none
    · obtain ⟨hon, hc⟩ := h
      simp [msTick_runs hon hc, State.idleCounted, hon, hc]
    · simp only [msTick_stands h, h, and_false, if_true, if_false]

theorem lampTick_counts (lamp : Bool) (s : State) :
    (if lamp then s.lampTick else s) = { s with lamp := { s.lamp with
      counter := if lamp = true ∧ s.lamp.on = true then s.lamp.counter + 1 else s.lamp.counter } } := by
  cases lamp with
  | false => rfl
  | true =>
    by_cases h : s.lamp.on = true
    · simp only [State.lampTick, h, and_self, if_true]
    · have hstay : s.lampTick = s := if_neg h
      rw [hstay, ite_self, if_neg fun hon => h hon.2]

/-- Settles O51: `ticks_unconfigured` and `ticks_configured` give the ticks, `countClk_eq`, `usTick_counts`,
`msTick_counts` and `lampTick_counts` what counts. -/
theorem clkCycleCounts : Obligations.ClkCycleCounts := by
  unfold Obligations.ClkCycleCounts
  intro s k
  refine ⟨fun h => ?_, fun st h => ticks_configured h, s.rawLines, ?_⟩
  · simp only [k, ticks_unconfigured h, and_self]
  · intro counted
    simp only [State.advance, countClk_eq, usTick_counts, msTick_counts, lampTick_counts]
    by_cases h : s.plan.station = none
    · simp only [h, if_true]
      rfl
    · simp only [h, if_false]
      rfl

/-! ### What is due (7.2, 0.6) -/

/-- The filters of an axis' two lines. -/
def Stage.lines (g : Stage) : Axis → Filter × Filter
  | .x => (g.xa, g.xb)
  | .y => (g.ya, g.yb)

/-- The filter's run has reached the depth (R134). -/
def Filter.Ripe (f : Filter) (depth : Nat) : Prop := f.raw ≠ f.level ∧ depth ≤ f.run

theorem due_iff_ripe (f : Filter) (depth : Nat) : f.due depth = true ↔ f.Ripe depth := by
  simp [Filter.due, Filter.Ripe]

/-- The events of an axis' two lines (R136, R137). -/
def axisEvents (depth : Nat) (ax : Axis) (a b : Filter) : List Instr :=
  match a.due depth, b.due depth with
  | true, true => [Instr.invalidTransition ax]
  | true, false => [Instr.validTransition ax .a]
  | false, true => [Instr.validTransition ax .b]
  | false, false => []

/-- The event of a home line (R139). -/
def homeEvents (depth : Nat) (ax : Axis) (h : Filter) : List Instr :=
  if h.due depth then [if h.level then Instr.fallingHomeEdge ax else Instr.homeEdge ax] else []

/-- The event of CUT (R161, R163). -/
def cutEvents (depth : Nat) (f : Filter) : List Instr :=
  if f.due depth then [if f.level then Instr.cutFall else Instr.cutRise] else []

theorem dueEvents_eq (g : Stage) (depth : Nat) :
    g.dueEvents depth = axisEvents depth .x g.xa g.xb ++ axisEvents depth .y g.ya g.yb ++ homeEvents depth .x g.homeX
      ++ homeEvents depth .y g.homeY ++ cutEvents depth g.cut := rfl

theorem mem_axisEvents (depth : Nat) (ax : Axis) (a b : Filter) (c : Instr) :
    c ∈ axisEvents depth ax a b ↔
      c = .invalidTransition ax ∧ a.Ripe depth ∧ b.Ripe depth
      ∨ c = .validTransition ax .a ∧ a.Ripe depth ∧ ¬b.Ripe depth
      ∨ c = .validTransition ax .b ∧ b.Ripe depth ∧ ¬a.Ripe depth := by
  simp only [← due_iff_ripe, axisEvents]
  cases a.due depth <;> cases b.due depth <;> simp

theorem mem_homeEvents (depth : Nat) (ax : Axis) (f : Filter) (c : Instr) :
    c ∈ homeEvents depth ax f ↔
      c = .homeEdge ax ∧ f.Ripe depth ∧ f.level = false
      ∨ c = .fallingHomeEdge ax ∧ f.Ripe depth ∧ f.level = true := by
  simp only [← due_iff_ripe, homeEvents]
  cases f.due depth <;> cases f.level <;> simp

theorem mem_cutEvents (depth : Nat) (f : Filter) (c : Instr) :
    c ∈ cutEvents depth f ↔
      c = .cutRise ∧ f.Ripe depth ∧ f.level = false ∨ c = .cutFall ∧ f.Ripe depth ∧ f.level = true := by
  simp only [← due_iff_ripe, cutEvents]
  cases f.due depth <;> cases f.level <;> simp

/-- A running timer has reached its length. -/
def Expired (o : Option Timer) : Prop := ∃ t, o = some t ∧ t.limit ≤ t.value

theorem mem_usDue (s : State) (c : Instr) :
    c ∈ s.usDue ↔
      (∃ v, s.stage.dwell = some v ∧ s.setting (·.dwell) ≤ v) ∧ c = .dwellExpiry
      ∨ Expired s.seq.settleTimer ∧ c = .settleExpiry
      ∨ Expired s.seq.pulseTimer ∧ c = .triggerPulseEnd
      ∨ (s.seq.deferred = true ∧ s.seq.trig = false) ∧ c = .deferredTrigger
      ∨ Expired s.seq.expTimer ∧ c = .exposureTimerExpiry
      ∨ ∃ r ∈ s.hold.queue, r.timer.limit ≤ r.timer.value ∧ c = .holdTimerExpiry r.master := by
  simp only [State.usDue, List.mem_append, List.mem_ite_nil_right, List.mem_singleton, Expired,
    Option.any_eq_true, decide_eq_true_eq, Bool.and_eq_true, Bool.not_eq_true', List.mem_map, List.mem_filter,
    Timer.reached, and_assoc, or_assoc, eq_comm (b := c)]

theorem mem_due (s : State) (k : Ticks) (c : Instr) :
    c ∈ s.due k ↔
      c ∈ s.stage.dueEvents s.filterDepth
      ∨ k.us = true ∧ c ∈ s.usDue
      ∨ k.ms = true ∧ (s.idleDue = true ∧ c = .idleTimerExpiry ∨ c = .heatTick)
      ∨ (k.lamp = true ∧ s.lamp.on = true ∧ s.lamp.period ≤ s.lamp.counter) ∧ c = .periodEnd := by
  simp only [State.due, List.mem_append, List.mem_ite_nil_right, List.mem_singleton, Bool.and_eq_true, decide_eq_true_eq,
    and_assoc, or_assoc]

/-- What it takes for an event to be due after a CLK cycle has counted. -/
def State.DueBy (s : State) (k : Ticks) : Instr → Prop
  | .validTransition ax .a => (s.stage.lines ax).1.Ripe s.filterDepth ∧ ¬(s.stage.lines ax).2.Ripe s.filterDepth
  | .validTransition ax .b => (s.stage.lines ax).2.Ripe s.filterDepth ∧ ¬(s.stage.lines ax).1.Ripe s.filterDepth
  | .invalidTransition ax => (s.stage.lines ax).1.Ripe s.filterDepth ∧ (s.stage.lines ax).2.Ripe s.filterDepth
  | .homeEdge ax => (s.stage.home ax).Ripe s.filterDepth ∧ (s.stage.home ax).level = false
  | .fallingHomeEdge ax => (s.stage.home ax).Ripe s.filterDepth ∧ (s.stage.home ax).level = true
  | .cutRise => s.stage.cut.Ripe s.filterDepth ∧ s.stage.cut.level = false
  | .cutFall => s.stage.cut.Ripe s.filterDepth ∧ s.stage.cut.level = true
  | .dwellExpiry => k.us = true ∧ ∃ v, s.stage.dwell = some v ∧ s.setting (·.dwell) ≤ v
  | .settleExpiry => k.us = true ∧ Expired s.seq.settleTimer
  | .triggerPulseEnd => k.us = true ∧ Expired s.seq.pulseTimer
  | .deferredTrigger => k.us = true ∧ s.seq.deferred = true ∧ s.seq.trig = false
  | .exposureTimerExpiry => k.us = true ∧ Expired s.seq.expTimer
  | .holdTimerExpiry m => k.us = true ∧ ∃ r ∈ s.hold.queue, r.master = m ∧ r.timer.limit ≤ r.timer.value
  | .idleTimerExpiry => k.ms = true ∧ 0 < s.setting (·.idleTime) ∧ s.setting (·.idleTime) * 1000 ≤ s.lamp.idleTimer
    ∧ s.lamp.on = true ∧ s.seq.current = none
  | .heatTick => k.ms = true
  | .periodEnd => k.lamp = true ∧ s.lamp.on = true ∧ s.lamp.period ≤ s.lamp.counter
  | _ => False

theorem mem_due_iff (s : State) (k : Ticks) (c : Instr) : c ∈ s.due k ↔ s.DueBy k c := by
  rw [mem_due, dueEvents_eq, mem_usDue, idleDue_iff]
  simp only [List.mem_append, mem_axisEvents, mem_homeEvents, mem_cutEvents]
  cases c
  case validTransition ax line => cases ax <;> cases line <;> simp [State.DueBy, Stage.lines]
  case invalidTransition ax => cases ax <;> simp [State.DueBy, Stage.lines]
  case homeEdge ax => cases ax <;> simp [State.DueBy, Stage.home]
  case fallingHomeEdge ax => cases ax <;> simp [State.DueBy, Stage.home]
  case holdTimerExpiry m => simp [State.DueBy, and_comm, eq_comm (a := m)]
  all_goals simp [State.DueBy]

/-! ### What the cycle takes (log entries 1, 2) -/

/-- An event that is due has its command's effect; of a 1 ms tick the heat model's part alone acts. -/
theorem clockEvent_of_due {s : State} {k : Ticks} {c : Instr} (h : s.DueBy k c) (u : State) :
    clockEvent c u = if c = .heatTick then heatStep u else effect c u := by
  cases c
  case heatTick => exact (if_pos rfl).symm
  case dwellExpiry | settleExpiry | triggerPulseEnd | deferredTrigger | exposureTimerExpiry | holdTimerExpiry
      | idleTimerExpiry | periodEnd | validTransition | invalidTransition | homeEdge | fallingHomeEdge | cutRise
      | cutFall =>
    exact (if_neg (by simp)).symm
  all_goals exact h.elim

theorem takeDue_due {s : State} {k : Ticks} {c : Instr} (h : c ∈ s.due k) :
    s.takeDue k c = finish (if c = .heatTick then heatStep s else effect c s) := by
  rw [← clockEvent_of_due ((mem_due_iff s k c).1 h)]
  exact if_pos (List.contains_iff_mem.2 h)

theorem takeDue_over {s : State} {k : Ticks} {c : Instr} (h : c ∉ s.due k) : s.takeDue k c = s :=
  if_neg (mt List.contains_iff_mem.1 h)

theorem pick_le (draw n : Nat) : pick draw n ≤ n := by
  unfold pick
  split
  · exact Nat.zero_le n
  · exact Nat.le_of_lt_succ (Nat.mod_lt _ n.succ_pos)

/-- A free order takes each element once. -/
theorem freeOrder_perm {α : Type} (draw : Nat) (l : List α) : (freeOrder draw l).Perm l := by
  induction l generalizing draw with
  | nil => exact .refl _
  | cons x l ih =>
    have hlen : pick draw l.length ≤ (freeOrder (draw + 1) l).length := by
      rw [(ih _).length_eq]
      exact pick_le _ _
    exact (List.perm_insertIdx x _ hlen).trans ((ih _).cons x)

/-- Settles O52: `mem_due_iff` says what is due, `takeDue_due` how it is taken, `freeOrder_perm` that the order is free. -/
theorem clkCycleTakesWhatIsDue : Obligations.ClkCycleTakesWhatIsDue := by
  unfold Obligations.ClkCycleTakesWhatIsDue
  refine ⟨fun s k c => ?_, fun s k c => ⟨takeDue_over, takeDue_due⟩, fun s => ?_⟩
  · intro depth ripe lines home expired
    rw [mem_due_iff]
    cases c
    case validTransition ax line => cases line <;> exact Iff.rfl
    all_goals exact Iff.rfl
  · let u := s.advance s.ticks
    have hperm := freeOrder_perm u.clock.draws (u.due s.ticks)
    refine ⟨_, hperm, ?_⟩
    rw [hperm.length_eq]
    rfl

end Sys2Proof.Machine
end

section
/-! PROOFS. What follows in a step (O5): each thing that follows, by what makes it possible. -/

namespace Sys2Proof.Machine

/-! ### The fetched record (R172) -/

/-- The row of a record kind. -/
def Kind.row : Kind → Instr
  | .station => .station
  | .plate => .plate
  | .retake => .retake
  | .dismiss => .dismiss

theorem fetched_iff {s : State} {kind : Kind} {k : Take} :
    s.fetched kind = some k ↔ s.plan.take = some k ∧ k.step = .fetched ∧ k.kind = some kind := by
  simp [State.fetched, Option.filter_eq_some_iff]

theorem recordStep_iff (s : State) (c : Instr) :
    s.recordStep = some c ↔ ∃ kind, (∃ k, s.fetched kind = some k) ∧ c = kind.row := by
  simp only [fetched_iff]
  unfold State.recordStep
  split
  · next slot w body htake =>
    simp only [htake, Option.some.injEq, Option.map_eq_some_iff]
    constructor
    · rintro ⟨kind, hkind, rfl⟩
      exact ⟨kind, ⟨_, rfl, rfl, hkind⟩, by cases kind <;> rfl⟩
    · rintro ⟨kind, ⟨k, rfl, -, hkind⟩, rfl⟩
      exact ⟨kind, hkind, by cases kind <;> rfl⟩
  · next hnone =>
    refine iff_of_false nofun ?_
    rintro ⟨kind, ⟨⟨slot, step, post, body⟩, htake, rfl, hkind⟩, -⟩
    cases post with
    | none => cases hkind
    | some w => exact hnone slot w body htake

theorem recordStep_none_iff (s : State) : s.recordStep = none ↔ ∀ kind, ¬∃ k, s.fetched kind = some k := by
  constructor
  · intro h kind hk
    have hrow := (recordStep_iff s kind.row).2 ⟨kind, hk, rfl⟩
    rw [h] at hrow
    cases hrow
  · intro h
    refine Option.eq_none_iff_forall_ne_some.2 fun c hc => ?_
    obtain ⟨kind, hk, -⟩ := (recordStep_iff s c).1 hc
    exact h kind hk

/-! ### The others -/

theorem slotField_iff {ws : List Word} {p : SlotNo} : slotField ws = some p ↔ p.val = (wordAt ws 0).toNat := by
  refine ⟨fun h => ?_, slotField_of_val⟩
  unfold slotField at h
  simp only [] at h
  split at h
  · cases h
    rfl
  · cases h

/-- R182: a waiting DISMISS finds its plate and a place. -/
theorem dismissReady_isSome_iff (s : State) :
    s.dismissReady.isSome = true ↔ ∃ (k : Take) (p : SlotNo) (plate : Plate), s.plan.take = some k
      ∧ k.step = .waitingReservation ∧ p.val = (wordAt k.body 0).toNat ∧ s.asm.plates[p] = some plate
      ∧ s.report.queue.length + s.report.reserved < 16 := by
  rw [Option.isSome_iff_exists]
  constructor
  · rintro ⟨⟨k, p, plate⟩, h⟩
    obtain ⟨hk, hstep, hp, hplate, hroom⟩ := dismissReady_some h
    exact ⟨k, p, plate, hk, hstep, slotField_iff.1 hp, hplate, hroom⟩
  · rintro ⟨k, p, plate, hk, hstep, hp, hplate, hroom⟩
    exact ⟨_, dismissReady_waiting hk hstep hp hplate hroom⟩

/-- R53, R54: a tile is found when one of an ASSEMBLING plate qualifies. -/
theorem candidate_isSome_iff (s : State) :
    s.candidate.isSome = true ↔ ∃ (p : SlotNo) (plate : Plate), s.asm.plates[p] = some plate
      ∧ plate.state = .assembling ∧ ∃ t ∈ plate.tiles, s.qualifies plate t = true := by
  have hslot : ∀ p : SlotNo, (s.candidateIn p).isSome = true ↔ ∃ plate, s.asm.plates[p] = some plate
      ∧ plate.state = .assembling ∧ ∃ t ∈ plate.tiles, s.qualifies plate t = true := fun p => by
    unfold State.candidateIn
    cases hp : s.asm.plates[p] with
    | none => simp
    | some plate => by_cases ha : plate.state = .assembling <;> simp [ha]
  simp only [State.candidate, List.findSome?_isSome_iff, List.mem_finRange, true_and, hslot]

/-- The cyclic order visits every class (R129). -/
theorem firstFrom_isSome_iff (s : State) (c : ArbClass) : (s.firstFrom c).isSome = true ↔ ∃ c, s.requests c = true := by
  have hall : ∀ x : ArbClass, x = c ∨ x = c.next ∨ x = c.next.next := by
    cases c <;> intro x <;> cases x <;> simp [ArbClass.next]
  unfold State.firstFrom
  split
  · next h => exact iff_of_true rfl ⟨_, h⟩
  next h0 =>
  split
  · next h => exact iff_of_true rfl ⟨_, h⟩
  next h1 =>
  split
  · next h => exact iff_of_true rfl ⟨_, h⟩
  next h2 =>
  refine iff_of_false (by simp) ?_
  rintro ⟨x, hx⟩
  rcases hall x with rfl | rfl | rfl
  · exact h0 hx
  · exact h1 hx
  · exact h2 hx

/-- R127: a grant goes to some class exactly when one has a request. -/
theorem grantClass_isSome_iff (s : State) : s.grantClass.isSome = true ↔ ∃ c, s.requests c = true := by
  unfold State.grantClass
  split
  · split
    · next h =>
      simp only [Bool.and_eq_true] at h
      exact iff_of_true rfl ⟨_, h.2⟩
    · exact firstFrom_isSome_iff s _
  · exact firstFrom_isSome_iff s _

/-- R101, R113: the held write may enter. -/
theorem heldReady_iff (s : State) :
    s.heldReady = true ↔ ∃ x, s.port.held = some x ∧ (s.pwq.need (s.queueWrites x.cls x.req) = 0
      ∨ (s.pwq.need (s.queueWrites x.cls x.req) ≤ s.pwq.free ∧ ¬(s.report.waits = true ∧ s.port.turn = .report))) := by
  simp only [State.heldReady, Option.any_eq_true, heldMayEnter_iff]

/-- R112, R113: the first ready line may enter. -/
theorem readyMayEnter_iff (s : State) :
    s.readyMayEnter = true ↔ s.readyNeed = 0 ∨ (s.readyNeed ≤ s.pwq.free
      ∧ ¬(s.port.held.isSome = true ∧ s.report.waits = true ∧ s.port.turn = .upstream)) := by
  simp only [State.readyMayEnter, Bool.or_eq_true, beq_iff_eq, Bool.and_eq_true, decide_eq_true_eq, Bool.not_eq_true',
    ← Bool.not_eq_true, and_assoc]

theorem readyMayEnter_one {s : State} {l : ReadyLine} {rest : List ReadyLine} {q : QWrite} (hl : s.report.ready = l :: rest)
    (hq : s.readyWrite l = some q) : s.readyMayEnter = true ↔ s.MayEnter q := by
  have hneed : s.readyNeed = s.pwq.need [q] := by simp [State.readyNeed, hl, hq]
  have hfree : 1 ≤ s.pwq.free ↔ s.pwq.entries.length < 16 := by
    simp only [Pwq.free, Config.pwqPlaces]
    omega
  rw [readyMayEnter_iff, hneed, State.MayEnter]
  cases h : s.pwq.hasWaiting q.line <;> simp [Pwq.need, h, hfree]

/-- R113: the line that the Report Writer side has waited with may enter. -/
theorem waitingLineReady_iff (s : State) (c : Instr) :
    s.waitingLineReady = some c ↔ (s.report.waits = true
      ∧ ∃ l rest q, s.report.ready = l :: rest ∧ s.readyWrite l = some q ∧ s.MayEnter q) ∧ s.ownStep = some c := by
  unfold State.waitingLineReady State.ownStep
  cases hready : s.report.ready with
  | nil => simp
  | cons l rest =>
    cases hq : s.readyWrite l with
    | none => simp [hq]
    | some q =>
      have hmay := readyMayEnter_one hready hq
      by_cases hm : s.readyMayEnter = true
      · simp [hq, ← hmay, hm]
      · simp [hq, ← hmay, hm, State.lineReady]

/-- The fetched record follows alone; with none, all that is possible does. -/
theorem mem_follows_iff (s : State) (c : Instr) :
    c ∈ s.follows ↔ s.recordStep = some c ∨ s.recordStep = none
      ∧ (c = .dismissReservation ∧ s.dismissReady.isSome = true
        ∨ c = .arming ∧ s.mayArm = true ∧ s.candidate.isSome = true
        ∨ c = .arbiterGrant ∧ s.down.accept = true ∧ s.grantClass.isSome = true
        ∨ c = .heldWriteEntry ∧ s.heldReady = true ∨ s.waitingLineReady = some c) := by
  unfold State.follows
  cases h : s.recordStep with
  | some c' => simp only [List.mem_singleton, Option.some.injEq, eq_comm, reduceCtorEq, false_and, or_false]
  | none =>
    simp only [List.mem_append, List.mem_ite_nil_right, List.mem_singleton, Bool.and_eq_true, Option.mem_toList,
      or_assoc, and_comm, true_and, false_or, reduceCtorEq]

end Sys2Proof.Machine
end

section
/-! PROOFS. The report ring and the ready list (10.2): what the tables, the exposure path, the stage and the queue do leaves
them as they are. -/

namespace Sys2Proof.Machine

/-- The Report Writer's part of the state but for its queue and the places of it. -/
def State.ring (s : State) : Nat × Nat × Nat × List ReadyLine × Bool × Bool :=
  (s.report.produce, s.report.drained, s.report.consume, s.report.ready, s.report.waits, s.report.irq)

theorem ring_of_report {s t : State} (h : t.report = s.report) : t.ring = s.ring := by
  simp only [State.ring, h]

/-! ### Records, holds and tables -/

section
variable (s : State)

@[simp] theorem offer_ring (r : Record) : (s.offer r).ring = s.ring := by simp [State.ring]

@[simp] theorem queueEssential_ring (r : Record) : (s.queueEssential r).ring = s.ring := rfl

@[simp] theorem giveUp_ring (n : Nat) : (s.giveUp n).ring = s.ring := rfl

@[simp] theorem setTile_ring (t : TileNo) (x : Option Tile) : (s.setTile t x).ring = s.ring := rfl

@[simp] theorem modTile_ring (t : TileNo) (f : Tile → Tile) : (s.modTile t f).ring = s.ring := rfl

@[simp] theorem setPlate_ring (p : SlotNo) (x : Option Plate) : (s.setPlate p x).ring = s.ring := rfl

@[simp] theorem modPlate_ring (p : SlotNo) (f : Plate → Plate) : (s.modPlate p f).ring = s.ring := rfl

@[simp] theorem setHold_ring (h : HoldNo) (x : Option Hold) : (s.setHold h x).ring = s.ring := rfl

@[simp] theorem clearRefs_ring (ts : List TileNo) : (s.clearRefs ts).ring = s.ring := rfl

@[simp] theorem leave_ring : s.leave.ring = s.ring := rfl

@[simp] theorem forwardStale_ring (cause : StaleCause) (r : HeldRead) : (s.forwardStale cause r).ring = s.ring := by
  rw [State.forwardStale, offer_ring]
  exact ring_of_report (by simp)

@[simp] theorem dismissHolds_ring (hs : List HoldNo) : (s.dismissHolds hs).ring = s.ring := by
  have hfreed : (hs.foldl (fun s h => s.setHold h none) s).ring = s.ring :=
    foldl_keeps State.ring _ (fun s h => setHold_ring s h none) hs s
  exact (foldl_keeps State.ring _ (fun s r => forwardStale_ring s .dismiss r) _ _).trans hfreed

@[simp] theorem finishBand_ring (p : SlotNo) (row : Nat) : (s.finishBand p row).ring = s.ring :=
  ring_of_report (by simp)

@[simp] theorem finishPlate_ring (p : SlotNo) : (s.finishPlate p).ring = s.ring := by
  unfold State.finishPlate
  split
  · rfl
  · split <;> rfl

@[simp] theorem endTile_ring (t : TileNo) (tile : Tile) (x : TileState) (f : Plate → Plate) (r : Record) :
    (s.endTile t tile x f r).ring = s.ring := by
  simp [State.endTile]

@[simp] theorem freePlate_ring (p : SlotNo) (done failed : Nat) : (s.freePlate p done failed).ring = s.ring := by
  unfold State.freePlate
  split
  · rfl
  · simp only [setPlate_ring, clearRefs_ring]
    exact foldl_keeps State.ring _ (fun s t => setTile_ring s t none) _ _

@[simp] theorem freeIfDone_ring (p : SlotNo) : (s.freeIfDone p).ring = s.ring := by
  unfold State.freeIfDone
  split
  · split
    · split <;> simp
    · rfl
  · rfl

/-! ### The exposure path -/

@[simp] theorem deliverFence_ring (t : TileNo) : (s.deliverFence t).ring = s.ring := by
  unfold State.deliverFence
  split
  · rfl
  · split
    · split <;> simp
    · simp
    · simp
    · rfl

@[simp] theorem closeCurrent_ring (t : TileNo) (tile : Tile) (o : ClosingOutcome) (heat : Option Nat) :
    (s.closeCurrent t tile o heat).ring = s.ring := by
  unfold State.closeCurrent State.placeFence
  split
  · rfl
  · simp

@[simp] theorem abort_ring (r : Reason) : (s.abort r).ring = s.ring := by
  unfold State.abort
  split
  · rfl
  · split
    · simp
    · simp [State.abortToPending]

@[simp] theorem discardCurrent_ring (p : SlotNo) : (s.discardCurrent p).ring = s.ring := by
  unfold State.discardCurrent
  split
  · rfl
  · split <;> simp

@[simp] theorem giveUpTile_ring (t : TileNo) : (s.giveUpTile t).ring = s.ring := by
  unfold State.giveUpTile
  split <;> rfl

@[simp] theorem discardPlate_ring (p : SlotNo) (plate : Plate) : (s.discardPlate p plate).ring = s.ring := by
  simp only [State.discardPlate, freeIfDone_ring, modPlate_ring, dismissHolds_ring]
  exact (foldl_keeps State.ring _ (fun s t => giveUpTile_ring s t) _ _).trans
    (foldl_keeps State.ring _ (fun s t => modTile_ring s t Tile.discard) _ _)

@[simp] theorem acceptDismiss_ring (p : SlotNo) (plate : Plate) : (s.acceptDismiss p plate).ring = s.ring := by
  unfold State.acceptDismiss
  simp only []
  split <;> simp

@[simp] theorem offerStray_ring : s.offerStray.ring = s.ring := by
  unfold State.offerStray
  split
  · exact offer_ring s _
  · rfl

@[simp] theorem turnOn_ring : s.turnOn.ring = s.ring := ring_of_report (by simp)

@[simp] theorem armTile_ring (t : TileNo) (plate : Plate) (tile : Tile) : (s.armTile t plate tile).ring = s.ring := by
  cases h : s.lamp.on with
  | true =>
    rw [armTile_lampOn t plate tile h, offerStray_ring]
    rfl
  | false =>
    rw [armTile_lampOff t plate tile h, turnOn_ring, offerStray_ring]
    rfl

@[simp] theorem arming_ring : (arming s).ring = s.ring := by
  unfold arming
  split
  · split
    · rfl
    · split
      · rfl
      · simp
  · rfl

/-! ### Captures and the queue -/

@[simp] theorem completeFrame_ring (t : TileNo) (tile : Tile) (plate : Plate) :
    (s.completeFrame t tile plate).ring = s.ring := by
  unfold State.completeFrame
  simp only []
  split
  · rfl
  · simp

@[simp] theorem handOver_ring (sc : Scan) : (s.handOver sc).ring = s.ring := by
  unfold State.handOver
  split <;> simp

@[simp] theorem placeAll_ring (ws : List QWrite) : (s.placeAll ws).ring = s.ring := ring_of_report (by simp)

@[simp] theorem enterWrite_ring (c : WriteClass) (w : WriteReq) : (s.enterWrite c w).ring = s.ring := by
  unfold State.enterWrite
  simp only []
  split
  · rw [handOver_ring]
    exact placeAll_ring s _
  · simp

/-! ### Stage and CUT -/

@[simp] theorem checkTolerance_ring (ax : Axis) : (s.checkTolerance ax).ring = s.ring := by
  unfold State.checkTolerance
  split <;> simp

@[simp] theorem count_ring (ax : Axis) (p : BitVec 24) : (s.count ax p).ring = s.ring := rfl

theorem decodeAxis_ring (ax : Axis) : (s.decodeAxis ax).ring = s.ring := by
  have href : ({ s with stage := s.stage.takeRef ax } : State).ring = s.ring := rfl
  unfold State.decodeAxis
  simp only []
  split
  · exact href
  · simp [href]
  · simp [href]
  · split <;> simp [href]

theorem homeEdge_ring (ax : Axis) : (homeEdge ax s).ring = s.ring := by
  cases h : (s.stage.home ax).level with
  | true => simp [homeEdge, h]
  | false =>
    simp only [homeEdge, h, Bool.false_eq_true, if_false, abort_ring]
    split <;> rfl

theorem lineEvent_ring (c : Instr) : (lineEvent c s).ring = s.ring := by
  unfold lineEvent
  split
  · exact decodeAxis_ring _ _
  · exact decodeAxis_ring _ _
  · exact homeEdge_ring s _
  · unfold fallingHomeEdge
    split <;> rfl
  · unfold cutRise
    split
    · rfl
    · simp only [abort_ring, offer_ring]
      rfl
  · unfold cutFall
    split
    · exact offer_ring _ _
    · rfl
  · rfl

end

end Sys2Proof.Machine
end

section
/-! PROOFS. What is left to follow in a step (O5): a sum that everything that follows lowers, so that the step comes to an
end. -/

namespace Sys2Proof.Machine

/-! ### The sum (`mostFollows`) -/

/-- What a take can still lead to in its step: its record, then the place of its DISMISS. -/
def Take.work (k : Take) : Nat :=
  match k.step with
  | .fetched => 6
  | .waitingReservation => 4
  | _ => 0

def State.takeWork (s : State) : Nat := (s.plan.take.map Take.work).getD 0

/-- What the take, a held write, an IDLE sequencer and an accepting controller can still lead to. -/
def State.work (s : State) : Nat :=
  s.takeWork + (if s.port.held.isSome then 4 else 0) + (if s.seq.current = none then 2 else 0)
    + (if s.down.accept then 2 else 0)

/-- The same with the line that the Report Writer side has waited with. -/
def State.toFollow (s : State) : Nat := s.work + if s.waitingLineReady.isSome then 1 else 0

theorem takeWork_le (s : State) : s.takeWork ≤ 6 := by
  unfold State.takeWork
  cases s.plan.take with
  | none => simp
  | some k =>
    simp only [Option.map_some, Option.getD_some, Take.work]
    split <;> omega

theorem toFollow_le (s : State) : s.toFollow ≤ 15 := by
  have := takeWork_le s
  unfold State.toFollow State.work
  split <;> split <;> split <;> split <;> omega

theorem work_congr {s t : State} (htake : t.plan.take = s.plan.take) (hheld : t.port.held = s.port.held)
    (hcur : t.seq.current = s.seq.current) (haccept : t.down.accept = s.down.accept) : t.work = s.work := by
  simp only [State.work, State.takeWork, htake, hheld, hcur, haccept]

theorem refresh_work (s : State) : (refresh s).work = s.work := work_congr (by simp) (by simp) (by simp) (by simp)

/-- A take that goes on lowers the sum, even when the sequencer becomes IDLE with it. -/
theorem work_drops_of_take {s t : State} (htake : t.takeWork + 4 ≤ s.takeWork) (hport : t.port = s.port)
    (haccept : t.down.accept = s.down.accept) : t.work + 2 ≤ s.work := by
  unfold State.work
  rw [hport, haccept]
  split <;> split <;> split <;> split <;> omega

/-! ### The take -/

theorem takeWork_of_step {s : State} {k : Take} (h : s.plan.take = some k) : s.takeWork = k.work := by
  simp [State.takeWork, h]

theorem takeWork_of_fetched {s : State} {kind : Kind} {k : Take} (h : s.fetched kind = some k) : s.takeWork = 6 := by
  obtain ⟨htake, hstep, -⟩ := fetched_some h
  rw [takeWork_of_step htake, Take.work, hstep]

theorem result_takeWork (s : State) (k : Take) (code : Code) (d : Nat) : (s.result k code d).takeWork = 0 := by
  simp only [State.takeWork, State.result, finishTake_plan]
  cases s.plan.take <;> rfl

/-- A take that ends lowers the sum, whatever its record did to the exposure path. -/
theorem result_work {s u : State} (k : Take) (code : Code) (d : Nat) (h : 4 ≤ s.takeWork) (hport : u.port = s.port)
    (hdown : u.down = s.down) : (u.result k code d).work + 2 ≤ s.work := by
  refine work_drops_of_take ?_ ((result_frame u k code d).1.trans hport) (congrArg Down.accept hdown :)
  rw [result_takeWork]
  omega

/-! ### The records -/

theorem decodeAxis_frame (s : State) (ax : Axis) :
    (s.decodeAxis ax).port = s.port ∧ (s.decodeAxis ax).down = s.down := by
  have hcheck : ∀ u : State, (u.checkTolerance ax).port = u.port ∧ (u.checkTolerance ax).down = u.down := fun u => by
    unfold State.checkTolerance
    split <;> simp
  unfold State.decodeAxis
  simp only []
  split
  · simp
  · simp [hcheck]
  · simp [hcheck]
  · split <;> simp

theorem lineEvent_frame (c : Instr) (s : State) : (lineEvent c s).port = s.port ∧ (lineEvent c s).down = s.down := by
  unfold lineEvent
  split
  · exact decodeAxis_frame _ _
  · exact decodeAxis_frame _ _
  · next ax =>
    cases h : (s.stage.home ax).level with
    | true => simp [homeEdge, h]
    | false =>
      simp only [homeEdge, h, Bool.false_eq_true, if_false, abort_frame]
      split <;> simp
  · unfold fallingHomeEdge
    split <;> simp
  · unfold cutRise
    split <;> simp
  · unfold cutFall
    split <;> simp
  · simp

theorem completeFilters_frame (s : State) : s.completeFilters.port = s.port ∧ s.completeFilters.down = s.down := by
  exact ⟨foldl_keeps State.port _ (fun u c => by simp [lineEvent_frame]) _ _,
    foldl_keeps State.down _ (fun u c => by simp [lineEvent_frame]) _ _⟩

theorem acceptStation_frame (s : State) (st : Station) :
    (s.acceptStation st).port = s.port ∧ (s.acceptStation st).down = s.down := by
  simp [State.acceptStation, completeFilters_frame, State.lampStation]

theorem stationRecord_work {s : State} {k : Take} (h : s.fetched .station = some k) :
    (stationRecord s).work + 2 ≤ s.work := by
  have hwork : 4 ≤ s.takeWork := by rw [takeWork_of_fetched h]; omega
  simp only [stationRecord, h]
  repeat' split
  all_goals exact result_work _ _ _ hwork (by simp [acceptStation_frame]) (by simp [acceptStation_frame])

theorem plateRecord_work {s : State} {k : Take} (h : s.fetched .plate = some k) : (plateRecord s).work + 2 ≤ s.work := by
  have hwork : 4 ≤ s.takeWork := by rw [takeWork_of_fetched h]; omega
  simp only [plateRecord, h]
  repeat' split
  all_goals exact result_work _ _ _ hwork (by simp) (by simp)

theorem retakeRecord_work {s : State} {k : Take} (h : s.fetched .retake = some k) :
    (retakeRecord s).work + 2 ≤ s.work := by
  have hwork : 4 ≤ s.takeWork := by rw [takeWork_of_fetched h]; omega
  simp only [retakeRecord, h]
  repeat' split
  all_goals exact result_work _ _ _ hwork (by simp) (by simp)

theorem dismissRecord_work {s : State} {k : Take} (h : s.fetched .dismiss = some k) :
    (dismissRecord s).work + 2 ≤ s.work := by
  have hsix := takeWork_of_fetched h
  have hwork : 4 ≤ s.takeWork := by omega
  simp only [dismissRecord, h]
  split
  · exact result_work _ _ _ hwork rfl rfl
  split
  · exact result_work _ _ _ hwork rfl rfl
  split
  · exact result_work _ _ _ hwork rfl rfl
  · have hfour : (s.setTake { k with step := .waitingReservation }).takeWork = 4 := rfl
    unfold State.work
    rw [hfour, hsix]
    change 4 + (if s.port.held.isSome then 4 else 0) + (if s.seq.current = none then 2 else 0)
      + (if s.down.accept then 2 else 0) + 2 ≤ _
    omega

theorem dismissReservation_work {s : State} (h : s.dismissReady.isSome = true) :
    (dismissReservation s).work + 2 ≤ s.work := by
  obtain ⟨⟨k, p, plate⟩, hready⟩ := Option.isSome_iff_exists.1 h
  obtain ⟨htake, hstep, -⟩ := dismissReady_some hready
  have hwork : 4 ≤ s.takeWork := by
    rw [takeWork_of_step htake, Take.work, hstep]
  simp only [dismissReservation, hready]
  exact result_work _ _ _ hwork (by simp) (by simp)

/-! ### Arming, the grant and the held write -/

theorem armTile_current (s : State) (t : TileNo) (plate : Plate) (tile : Tile) :
    (s.armTile t plate tile).seq.current = some t := by
  cases h : s.lamp.on with
  | true => simp [armTile_lampOn t plate tile h, State.armedFor]
  | false =>
    obtain ⟨hcur, -⟩ := latch_keeps ((s.armedFor t plate tile).offerStray.lit
      (s.armedFor t plate tile).offerStray.lampOn.requestNow.1 (s.armedFor t plate tile).offerStray.lampOn.requestNow.2)
    rw [armTile_lampOff t plate tile h, turnOn_eq, hcur]
    simp [State.lit, State.armedFor]

/-- What is chosen is a tile. -/
theorem candidate_tile {s : State} {t : TileNo} {plate : Plate} (h : s.candidate = some (t, plate)) :
    ∃ tile, s.asm.tiles[t] = some tile := by
  obtain ⟨p, -, hp⟩ := List.exists_of_findSome?_eq_some h
  unfold State.candidateIn at hp
  split at hp
  · cases hp
  split at hp
  · obtain ⟨t', hfind, heq⟩ := Option.map_eq_some_iff.1 hp
    cases heq
    obtain ⟨tile, ht, -⟩ := (qualifies_iff s plate t).1 (List.find?_some hfind)
    exact ⟨tile, ht⟩
  · cases hp

theorem arming_work {s : State} (hm : s.mayArm = true) (hc : s.candidate.isSome = true) :
    (arming s).work + 2 ≤ s.work := by
  obtain ⟨hidle, -⟩ := (mayArm_iff s).1 hm
  obtain ⟨⟨t, plate⟩, hcand⟩ := Option.isSome_iff_exists.1 hc
  obtain ⟨tile, ht⟩ := candidate_tile hcand
  rw [arming_candidate hm hcand ht]
  simp only [State.work, State.takeWork, armTile_frame, armTile_current, hidle, reduceCtorEq, if_true, if_false]
  omega

theorem grant_accept (s : State) (c : ArbClass) : (s.grant c).down.accept = s.down.accept := by
  cases c <;> simp only [State.grant, State.grantRead, State.grantDrain, State.grantFetch] <;> split <;> rfl

theorem arbiterGrant_work {s : State} (ha : s.down.accept = true) (hg : s.grantClass.isSome = true) :
    (arbiterGrant s).work + 2 ≤ s.work := by
  obtain ⟨c, hc⟩ := Option.isSome_iff_exists.1 hg
  have haccept : (arbiterGrant s).down.accept = false := by
    simp only [arbiterGrant, hc]
    exact grant_accept _ _
  simp only [State.work, State.takeWork, arbiterGrant_frame, haccept, ha, if_true, Bool.false_eq_true, if_false]
  omega

theorem presentDeferred_accept (s : State) : s.presentDeferred.down.accept = s.down.accept := by
  unfold State.presentDeferred
  split <;> rfl

/-- The held write that enters leaves the port (R101). -/
theorem heldWriteEntry_leaves {s : State} (h : s.heldReady = true) :
    s.port.held.isSome = true ∧ (heldWriteEntry s).port.held = none ∧ (heldWriteEntry s).plan = s.plan
      ∧ (heldWriteEntry s).down.accept = s.down.accept := by
  obtain ⟨⟨w, c⟩, hheld, hmay⟩ := (Option.any_eq_true _ _).1 h
  rw [heldWriteEntry_enters hheld hmay]
  simp [presentDeferred_accept, hheld, State.freed, State.atPort]

theorem heldWriteEntry_work {s : State} (h : s.heldReady = true) : (heldWriteEntry s).work + 2 ≤ s.work := by
  obtain ⟨hheld, hnone, hplan, haccept⟩ := heldWriteEntry_leaves h
  simp only [State.work, State.takeWork, hheld, hnone, hplan, haccept, Option.isSome_none, Bool.false_eq_true, if_true,
    if_false]
  split <;> split <;> omega

end Sys2Proof.Machine
end

section
/-! PROOFS. The line that the Report Writer side has waited with (O5), and that all that follows in a step is done at its
end. -/

namespace Sys2Proof.Machine

/-! ### The waiting of the Report Writer side (R113) -/

/-- The ready list and the note of the waiting stand as given. -/
def State.withLines (ready : List ReadyLine) (waits : Bool) (s : State) : State :=
  { s with report := { s.report with ready := ready, waits := waits } }

/-- A first line that the free entries do not cover may not enter. -/
theorem waitingLine_uncovered {s : State} (h : s.pwq.free < s.readyNeed) : s.waitingLineReady = none := by
  have hmay : s.readyMayEnter = false := by
    rw [← Bool.not_eq_true, readyMayEnter_iff]
    omega
  simp [State.waitingLineReady, State.lineReady, hmay]

theorem waitingLine_quiet {s : State} (h : s.report.waits = false) : s.waitingLineReady = none := by
  simp [State.waitingLineReady, h]

theorem noteWait_waits (s : State) :
    s.noteWait.report.waits = true ↔
      s.report.ready ≠ [] ∧ (s.report.waits = true ∨ s.pwq.free < s.readyNeed) := by
  simp [State.noteWait]

/-- A side that did not wait is noted as waiting for a line that may not enter, or goes on not waiting. -/
theorem noteWait_line {s : State} (h : s.report.waits = false) : s.noteWait.waitingLineReady = none := by
  cases hw : s.noteWait.report.waits with
  | false => exact waitingLine_quiet hw
  | true =>
    obtain ⟨-, hwait | hfree⟩ := (noteWait_waits s).1 hw
    · rw [h] at hwait
      cases hwait
    · exact waitingLine_uncovered (s := s.noteWait) hfree

/-- Beside the record in hand and the note of the waiting, `refresh` moves the lamp alone. -/
theorem refresh_eq (s : State) : refresh s = { s.takeInHand.noteWait with lamp := (refresh s).lamp } := rfl

theorem withLamp_line (s : State) (l : Lamp) : ({ s with lamp := l } : State).waitingLineReady = s.waitingLineReady := rfl

theorem refresh_line {s : State} (h : s.report.waits = false) : (refresh s).waitingLineReady = none := by
  rw [refresh_eq, withLamp_line]
  exact noteWait_line (by simpa using h)

/-- The waiting of the Report Writer side has been noted: without ready line it does not wait, and if it does not wait, the
free entries cover its first line. -/
structure Noted (s : State) : Prop where
  empty : s.report.ready = [] → s.report.waits = false
  covered : s.report.waits = false → s.report.ready ≠ [] → s.readyNeed ≤ s.pwq.free

theorem noteWait_noted (s : State) : Noted s.noteWait where
  empty h := by
    rw [← Bool.not_eq_true, noteWait_waits]
    exact fun hw => hw.1 h
  covered h hne := by
    rw [← Bool.not_eq_true, noteWait_waits] at h
    exact Nat.le_of_not_lt fun hlt => h ⟨hne, .inr hlt⟩

theorem withLamp_need (s : State) (l : Lamp) : ({ s with lamp := l } : State).readyNeed = s.readyNeed := rfl

theorem Noted.withLamp {s : State} (h : Noted s) (l : Lamp) : Noted { s with lamp := l } :=
  ⟨h.empty, by rw [withLamp_need]; exact h.covered⟩

theorem refresh_noted (s : State) : Noted (refresh s) := by
  rw [refresh_eq]
  exact (noteWait_noted s.takeInHand).withLamp _

/-! ### Lines that enter -/

/-- The line that has waited is ready first, has its write, and its row stands for its entry. -/
theorem waitingLine_some {s : State} {c : Instr} (h : s.waitingLineReady = some c) :
    ∃ l rest q, s.report.ready = l :: rest ∧ s.readyWrite l = some q ∧ c = l.entryRow ∧ s.readyMayEnter = true := by
  obtain ⟨⟨-, l, rest, q, hl, hq, hmay⟩, hown⟩ := (waitingLineReady_iff s c).1 h
  have henter : s.readyMayEnter = true := (readyMayEnter_one hl hq).2 hmay
  refine ⟨l, rest, q, hl, hq, ?_, henter⟩
  simpa [State.ownStep, State.lineReady, henter, hl, eq_comm] using hown

theorem readyWrite_record {s : State} {q : QWrite} (h : s.readyWrite .record = some q) :
    ∃ st r rest, s.plan.station = some st ∧ s.report.queue = r :: rest := by
  simp only [State.readyWrite] at h
  split at h
  · next st r rest hst hq => exact ⟨st, r, rest, hst, hq⟩
  · cases h

theorem readyWrite_result {s : State} {q : QWrite} (h : s.readyWrite .result = some q) :
    ∃ k w, s.plan.take = some k ∧ k.step = .finished w := by
  simp only [State.readyWrite] at h
  split at h
  · next k w _ _ htake => exact ⟨_, w, htake, rfl⟩
  · cases h

theorem enterReady_work (s : State) (w : QWrite) : (s.enterReady w).work = s.work := by
  refine work_congr (by simp) ?_ (by simp) (by simp)
  cases h : s.port.held <;> simp [h]

/-- With its take over the Plan Reader has no record to process in the step (R171, R176). -/
theorem endTake_work (s : State) (k : Take) : (s.endTake k).work ≤ s.work := by
  have htake : (s.endTake k).takeWork = 0 := by
    unfold State.endTake State.search
    split
    · rw [startTake_eq]
      rfl
    · next hno =>
      cases hp : Plan.nextPosted { s.plan with take := none, takeIndex := k.slot + 1 } with
      | none => rfl
      | some k' => exact absurd hp (hno k' rfl)
  have haccept : (s.endTake k).down.accept = s.down.accept := by
    unfold State.endTake State.search
    split
    · rw [startTake_eq]
      rfl
    · rfl
  simp only [State.work, htake, haccept, endTake_frame]
  omega

/-- The entry of a line that has waited: nothing becomes possible that the sum counts, and the side waits no more. -/
theorem lineEntry_work {s : State} {c : Instr} (h : s.waitingLineReady = some c) :
    (effect c s).work ≤ s.work ∧ (effect c s).report.waits = false := by
  obtain ⟨l, rest, q, hl, hq, rfl, hmay⟩ := waitingLine_some h
  cases l with
  | record =>
    obtain ⟨st, r, rs, hst, hqueue⟩ := readyWrite_record hq
    simp only [ReadyLine.entryRow, effect, recordLineEntry, hl, hst, hqueue, hmay, if_true]
    exact ⟨(enterReady_work s (recordWrite st s.report.produce r s.report.dropped)).le, rfl⟩
  | header base p live =>
    simp only [ReadyLine.entryRow, effect, headerLineEntry, hl, hmay, if_true]
    exact ⟨(enterReady_work s _).le, rfl⟩
  | newHeader base =>
    simp only [ReadyLine.entryRow, effect, headerLineEntry, hl, hmay, if_true]
    exact ⟨(enterReady_work s _).le, rfl⟩
  | result =>
    obtain ⟨k, w, htake, hstep⟩ := readyWrite_result hq
    simp only [ReadyLine.entryRow, effect, resultWordEntry, hl, htake, hstep, hmay, if_true]
    exact ⟨(endTake_work _ k).trans (enterReady_work s _).le, by simp⟩

/-! ### The step comes to an end -/

theorem recordStep_work {s : State} {c : Instr} (h : s.recordStep = some c) : (effect c s).work + 2 ≤ s.work := by
  obtain ⟨kind, ⟨k, hk⟩, rfl⟩ := (recordStep_iff s c).1 h
  cases kind with
  | station => exact stationRecord_work hk
  | plate => exact plateRecord_work hk
  | retake => exact retakeRecord_work hk
  | dismiss => exact dismissRecord_work hk

/-- What follows, other than a line that has waited, lowers the sum by more than such a line counts. -/
theorem toFollow_of_work {s t : State} (h : t.work + 2 ≤ s.work) : (refresh t).toFollow < s.toFollow := by
  unfold State.toFollow
  rw [refresh_work]
  split <;> split <;> omega

/-- Everything that follows lowers the sum. -/
theorem toFollow_drops {s : State} {c : Instr} (h : c ∈ s.follows) : (refresh (effect c s)).toFollow < s.toFollow := by
  rcases (mem_follows_iff s c).1 h with hrecord | ⟨-, hothers⟩
  · exact toFollow_of_work (recordStep_work hrecord)
  rcases hothers with ⟨rfl, hdismiss⟩ | ⟨rfl, hm, hc⟩ | ⟨rfl, ha, hg⟩ | ⟨rfl, hheld⟩ | hline
  · exact toFollow_of_work (dismissReservation_work hdismiss)
  · exact toFollow_of_work (arming_work hm hc)
  · exact toFollow_of_work (arbiterGrant_work ha hg)
  · exact toFollow_of_work (heldWriteEntry_work hheld)
  · obtain ⟨hwork, hwaits⟩ := lineEntry_work hline
    unfold State.toFollow
    rw [refresh_work, refresh_line hwaits, hline]
    simp only [Option.isSome_none, Option.isSome_some, Bool.false_eq_true, if_false, if_true]
    omega

/-- What follows is a command's effect. -/
theorem followUp_of_mem {s : State} {c : Instr} (h : c ∈ s.follows) (u : State) : followUp c u = effect c u := by
  rcases (mem_follows_iff s c).1 h with h | ⟨-, ⟨rfl, -⟩ | ⟨rfl, -⟩ | ⟨rfl, -⟩ | ⟨rfl, -⟩ | h⟩
  · obtain ⟨kind, -, rfl⟩ := (recordStep_iff s c).1 h
    cases kind <;> rfl
  · rfl
  · rfl
  · rfl
  · rfl
  · obtain ⟨l, -, -, -, -, rfl, -⟩ := waitingLine_some h
    cases l <;> rfl

/-- Of what follows one thing is taken. -/
theorem follow_eq {s : State} (h : s.follows ≠ []) :
    ∃ c ∈ s.follows, ∃ n ≤ 1, s.follow = refresh (effect c (s.draw n)) := by
  unfold State.follow
  split
  · next hnone => exact absurd hnone h
  · next c hone =>
    have hmem : c ∈ s.follows := by simp [hone]
    exact ⟨c, hmem, 0, Nat.zero_le 1, by rw [followUp_of_mem hmem]; rfl⟩
  · have hlen : pick s.clock.draws (s.follows.length - 1) < s.follows.length := by
      have := pick_le s.clock.draws (s.follows.length - 1)
      have := List.length_pos_iff.2 h
      omega
    refine ⟨s.follows[pick s.clock.draws (s.follows.length - 1)], List.getElem_mem hlen, 1, le_rfl, ?_⟩
    rw [← followUp_of_mem (List.getElem_mem hlen), List.getD_eq_getElem _ _ hlen]

section
variable (n : Nat) (s : State)

theorem draw_recordStep : (s.draw n).recordStep = s.recordStep := rfl
theorem draw_dismissReady : (s.draw n).dismissReady = s.dismissReady := rfl
theorem draw_mayArm : (s.draw n).mayArm = s.mayArm := rfl
theorem draw_candidate : (s.draw n).candidate = s.candidate := rfl
theorem draw_grantClass : (s.draw n).grantClass = s.grantClass := rfl
theorem draw_heldReady : (s.draw n).heldReady = s.heldReady := rfl
theorem draw_waitingLineReady : (s.draw n).waitingLineReady = s.waitingLineReady := rfl
theorem draw_work : (s.draw n).work = s.work := rfl

/-- A draw makes nothing possible. -/
theorem draw_follows : (s.draw n).follows = s.follows := by
  rw [State.follows, draw_recordStep, draw_dismissReady, draw_mayArm, draw_candidate, draw_down, draw_grantClass,
    draw_heldReady, draw_waitingLineReady, State.follows]

theorem draw_toFollow : (s.draw n).toFollow = s.toFollow := by
  rw [State.toFollow, draw_work, draw_waitingLineReady, State.toFollow]

end

/-- Of what follows, taken after a draw, every thing lowers the sum. -/
theorem toFollow_drops_drawn {s : State} {c : Instr} (h : c ∈ s.follows) (n : Nat) :
    (refresh (effect c (s.draw n))).toFollow < s.toFollow := by
  rw [← draw_toFollow n s]
  exact toFollow_drops ((draw_follows n s).symm ▸ h)

theorem follow_drops {s : State} (h : s.follows ≠ []) : s.follow.toFollow < s.toFollow := by
  obtain ⟨c, hc, n, -, heq⟩ := follow_eq h
  rw [heq]
  exact toFollow_drops_drawn hc n

theorem settle_succ {s : State} (h : s.follows ≠ []) (n : Nat) : settle (n + 1) s = settle n s.follow := by
  rw [settle]
  split
  · next hnone => exact absurd hnone h
  · rfl

/-- With enough turns nothing is left to follow. -/
theorem settle_done {n : Nat} {s : State} (h : s.toFollow ≤ n) : (settle n s).follows = [] := by
  induction n generalizing s with
  | zero =>
    by_contra hne
    have := follow_drops (s := s) hne
    omega
  | succ n ih =>
    by_cases hne : s.follows = []
    · rw [settle_of_done hne, hne]
    · rw [settle_succ hne]
      have := follow_drops hne
      exact ih (by omega)

/-- One turn more than enough changes nothing. -/
theorem settle_enough {n : Nat} {s : State} (h : s.toFollow ≤ n) : settle (n + 1) s = settle n s := by
  induction n generalizing s with
  | zero =>
    have hdone : s.follows = [] := settle_done h
    rw [settle_of_done hdone, settle_of_done hdone]
  | succ n ih =>
    by_cases hne : s.follows = []
    · rw [settle_of_done hne, settle_of_done hne]
    · have := follow_drops hne
      rw [settle_succ hne, settle_succ hne, ih (by omega)]

end Sys2Proof.Machine
end

section
/-! PROOFS. The end of a step (O5): nothing is left to follow after it, and a result word joins the ready list only there. -/

namespace Sys2Proof.Machine

/-! ### After the end of a step nothing is left -/

theorem conclude_eq (s : State) :
    conclude s = s.withLines (conclude s).report.ready (conclude s).report.waits := by
  unfold conclude State.presentResult
  split <;> rfl

theorem conclude_recordStep (s : State) : (conclude s).recordStep = s.recordStep := by
  rw [conclude_eq]
  rfl

theorem conclude_dismissReady (s : State) : (conclude s).dismissReady = s.dismissReady := by
  rw [conclude_eq]
  rfl

theorem conclude_mayArm (s : State) : (conclude s).mayArm = s.mayArm := by
  rw [conclude_eq]
  rfl

theorem conclude_candidate (s : State) : (conclude s).candidate = s.candidate := by
  rw [conclude_eq]
  rfl

theorem conclude_grantClass (s : State) : (conclude s).grantClass = s.grantClass := by
  rw [conclude_eq]
  rfl

theorem conclude_queueWrites (s : State) (c : WriteClass) (w : WriteReq) :
    (conclude s).queueWrites c w = s.queueWrites c w := by
  rw [conclude_eq]
  rfl

theorem conclude_readyWrite (s : State) (l : ReadyLine) : (conclude s).readyWrite l = s.readyWrite l := by
  rw [conclude_eq]
  rfl

/-- A side that waits goes on waiting at the end of the step. -/
theorem conclude_waits {s : State} (hn : Noted s) (h : s.report.waits = true) : (conclude s).report.waits = true := by
  refine (noteWait_waits s.presentResult).2 ⟨fun hnil => ?_, .inl (by simpa using h)⟩
  have hready : s.report.ready = [] := (List.append_eq_nil_iff.1 ((conclude_ready s).symm.trans hnil)).1
  rw [hn.empty hready] at h
  cases h

/-- A held write that may enter at the end of the step could enter before it. -/
theorem conclude_heldReady {s : State} (hn : Noted s) (h : (conclude s).heldReady = true) : s.heldReady = true := by
  obtain ⟨x, hx, hmay⟩ := (heldReady_iff _).1 h
  simp only [conclude_frame, conclude_queueWrites] at hx hmay
  exact (heldReady_iff s).2 ⟨x, hx, hmay.imp_right fun ⟨hfree, hkept⟩ =>
    ⟨hfree, fun ⟨hwaits, hturn⟩ => hkept ⟨conclude_waits hn hwaits, hturn⟩⟩⟩

theorem waitingLine_of_mayEnter {s : State} {l : ReadyLine} {rest : List ReadyLine} {q : QWrite}
    (hw : s.report.waits = true) (hl : s.report.ready = l :: rest) (hq : s.readyWrite l = some q) (hmay : s.MayEnter q) :
    s.waitingLineReady = some l.entryRow := by
  refine (waitingLineReady_iff s _).2 ⟨⟨hw, l, rest, q, hl, hq, hmay⟩, ?_⟩
  simp [State.ownStep, State.lineReady, (readyMayEnter_one hl hq).2 hmay, hl]

/-- The end of a step lets no line enter that could not enter before it. -/
theorem conclude_line {s : State} (hn : Noted s) (h : s.waitingLineReady = none) :
    (conclude s).waitingLineReady = none := by
  cases hw : s.report.waits with
  | false => exact noteWait_line (s := s.presentResult) (by simpa using hw)
  | true =>
    refine Option.eq_none_iff_forall_ne_some.2 fun c hc => ?_
    obtain ⟨⟨hwaits, l, rest, q, hl, hq, hmay⟩, -⟩ := (waitingLineReady_iff _ c).1 hc
    rw [conclude_readyWrite] at hq
    have hsame : s.MayEnter q := by simpa [State.MayEnter, hwaits, hw] using hmay
    cases hready : s.report.ready with
    | nil =>
      rw [hn.empty hready] at hw
      cases hw
    | cons l' rest' =>
      rw [conclude_ready, hready, List.cons_append, List.cons.injEq] at hl
      obtain ⟨rfl, -⟩ := hl
      rw [waitingLine_of_mayEnter hw hready hq hsame] at h
      cases h

theorem conclude_follows {s : State} (hn : Noted s) (h : s.follows = []) : (conclude s).follows = [] := by
  have hnone : ∀ c, c ∉ s.follows := fun c => by simp [h]
  have hline : s.recordStep = none → s.waitingLineReady = none := fun hrecord =>
    Option.eq_none_iff_forall_ne_some.2 fun c hc =>
      hnone c ((mem_follows_iff s c).2 (.inr ⟨hrecord, .inr (.inr (.inr (.inr hc)))⟩))
  refine List.eq_nil_iff_forall_not_mem.2 fun c hc => ?_
  simp only [mem_follows_iff, conclude_recordStep, conclude_dismissReady, conclude_mayArm, conclude_candidate,
    conclude_grantClass, conclude_frame] at hc hnone
  rcases hc with hc | ⟨hrecord, hc⟩
  · exact hnone c (.inl hc)
  · rw [conclude_line hn (hline hrecord)] at hc
    refine hnone c (.inr ⟨hrecord, ?_⟩)
    rcases hc with hc | hc | hc | ⟨rfl, hc⟩ | hc
    · exact .inl hc
    · exact .inr (.inl hc)
    · exact .inr (.inr (.inl hc))
    · exact .inr (.inr (.inr (.inl ⟨rfl, conclude_heldReady hn hc⟩)))
    · cases hc

theorem settle_noted (n : Nat) {s : State} (h : Noted s) : Noted (settle n s) :=
  settle_keeps Noted (fun _ _ hs => ⟨hs.empty, hs.covered⟩) (fun _ _ _ => refresh_noted _) n s h

/-- Nothing is left to follow after a step. -/
theorem finish_follows (s : State) : (finish s).follows = [] :=
  conclude_follows (settle_noted _ (refresh_noted s)) (settle_done ((toFollow_le _).trans (by decide)))

/-- What follows is taken one by one, each with all that follows it. -/
theorem finish_follow {s : State} (h : (refresh s).follows ≠ []) :
    ∃ c ∈ (refresh s).follows, ∃ n ≤ 1, finish s = finish (effect c ((refresh s).draw n)) := by
  obtain ⟨c, hc, n, hn, hfollow⟩ := follow_eq h
  refine ⟨c, hc, n, hn, congrArg conclude ?_⟩
  have hless := toFollow_drops_drawn hc n
  have hmost := toFollow_le (refresh s)
  calc settle mostFollows (refresh s) = settle 15 (refresh s).follow := settle_succ h 15
    _ = settle 15 (refresh (effect c ((refresh s).draw n))) := by rw [hfollow]
    _ = settle mostFollows (refresh (effect c ((refresh s).draw n))) := (settle_enough (by omega)).symm

/-! ### A result word joins the ready list at the end alone (R176, R189) -/

theorem ready_of_ring {s t : State} (h : t.ring = s.ring) : t.report.ready = s.report.ready := by
  simp only [State.ring, Prod.mk.injEq] at h
  obtain ⟨-, -, -, hready, -⟩ := h
  exact hready

/-- The result word is ready after no effect before which it was not. -/
def NoResult (s t : State) : Prop := ReadyLine.result ∈ t.report.ready → ReadyLine.result ∈ s.report.ready

theorem noResult_of_ring {s t : State} (h : t.ring = s.ring) : NoResult s t := by
  rw [NoResult, ready_of_ring h]
  exact id

theorem NoResult.trans {s t u : State} (h : NoResult s t) (g : NoResult t u) : NoResult s u := h ∘ g

theorem refresh_noResult (s : State) : NoResult s (refresh s) := by
  have hready : (refresh s).report.ready = s.takeInHand.report.ready := rfl
  rw [NoResult, hready]
  unfold State.takeInHand
  split
  · exact id
  · split
    · simp
    · exact id

theorem newRing_noResult (st : Station) (s : State) : NoResult s (s.newRing st) := by
  intro (h : ReadyLine.result ∈ s.report.ready.map ReadyLine.toOldRing ++ [.newHeader st.reportBase])
  simp only [List.mem_append, List.mem_map, List.mem_singleton, reduceCtorEq, or_false] at h
  obtain ⟨l, hl, hold⟩ := h
  cases l with
  | result => exact hl
  | record => cases hold
  | header base p live => cases hold
  | newHeader base => cases hold

theorem completeFilters_noResult (s : State) : NoResult s s.completeFilters :=
  foldl_inv (NoResult s) _ (fun u c hu => hu.trans ((noResult_of_ring (lineEvent_ring u c)).trans (refresh_noResult _))) _
    _ id

theorem acceptStation_noResult (st : Station) (s : State) : NoResult s (s.acceptStation st) := by
  refine ((newRing_noResult st s).trans (noResult_of_ring (ring_of_report ?_))).trans (completeFilters_noResult _)
  simp only [State.lampStation, judgeZone_frame]
  rfl

@[simp] theorem result_ring (s : State) (k : Take) (code : Code) (d : Nat) : (s.result k code d).ring = s.ring := rfl

theorem result_noResult {s u : State} (k : Take) (code : Code) (d : Nat) (h : NoResult s u) :
    NoResult s (u.result k code d) := h

theorem stationRecord_noResult (s : State) : NoResult s (stationRecord s) := by
  unfold stationRecord
  split
  · exact id
  simp only []
  split
  · exact result_noResult _ _ _ id
  split
  · exact result_noResult _ _ _ id
  split
  · exact result_noResult _ _ _ id
  · exact result_noResult _ _ _ (acceptStation_noResult _ s)

theorem plateRecord_report (s : State) : (plateRecord s).report = s.report := by
  unfold plateRecord
  repeat' split
  all_goals simp only [result_frame, acceptPlate_frame]

theorem retakeRecord_report (s : State) : (retakeRecord s).report = s.report := by
  unfold retakeRecord
  repeat' split
  all_goals simp

theorem dismissRecord_report (s : State) : (dismissRecord s).report = s.report := by
  unfold dismissRecord
  repeat' split
  all_goals simp

theorem dismissReservation_ring (s : State) : (dismissReservation s).ring = s.ring := by
  unfold dismissReservation
  split
  · rfl
  · rw [result_ring, acceptDismiss_ring]
    rfl

theorem presentDeferred_report (s : State) : s.presentDeferred.report = s.report := by simp

theorem heldWriteEntry_ring (s : State) : (heldWriteEntry s).ring = s.ring := by
  cases hheld : s.port.held with
  | none => rw [heldWriteEntry_none hheld]
  | some x =>
    obtain ⟨w, c⟩ := x
    cases hmay : s.heldMayEnter (s.queueWrites c w) with
    | false => rw [heldWriteEntry_waits hheld hmay]
    | true =>
      rw [heldWriteEntry_enters hheld hmay, ring_of_report (presentDeferred_report _),
        ring_of_report (answer_report _ _ _ _), enterWrite_ring]
      rfl

theorem enterReady_noResult (s : State) (w : QWrite) : NoResult s (s.enterReady w) := List.mem_of_mem_tail

theorem recordLineEntry_noResult (s : State) : NoResult s (recordLineEntry s) := by
  unfold recordLineEntry
  split
  · split
    · intro h
      simp only [enterReady_report, List.mem_append, List.mem_singleton, reduceCtorEq, or_false] at h
      exact List.mem_of_mem_tail h
    · exact id
  · exact id

theorem headerLineEntry_noResult (s : State) : NoResult s (headerLineEntry s) := by
  unfold headerLineEntry
  split
  · split
    · exact enterReady_noResult s _
    · exact id
  · split
    · exact enterReady_noResult s _
    · exact id
  · exact id

theorem resultWordEntry_noResult (s : State) : NoResult s (resultWordEntry s) := by
  unfold resultWordEntry
  split
  · split
    · split
      · next k _ _ _ w _ _ =>
        exact (enterReady_noResult s (resultWrite (s.postWord k.slot) w)).trans
          (noResult_of_ring (ring_of_report (by simp)))
      · exact id
    · exact id
  · exact id

theorem followUp_noResult (c : Instr) (s : State) : NoResult s (followUp c s) := by
  unfold followUp
  split
  · exact stationRecord_noResult s
  · exact noResult_of_ring (ring_of_report (plateRecord_report s))
  · exact noResult_of_ring (ring_of_report (retakeRecord_report s))
  · exact noResult_of_ring (ring_of_report (dismissRecord_report s))
  · exact noResult_of_ring (dismissReservation_ring s)
  · exact noResult_of_ring (arming_ring s)
  · exact noResult_of_ring (ring_of_report (by simp))
  · exact noResult_of_ring (heldWriteEntry_ring s)
  · exact recordLineEntry_noResult s
  · exact headerLineEntry_noResult s
  · exact resultWordEntry_noResult s
  · exact id

theorem settle_noResult (n : Nat) (s : State) : NoResult s (settle n s) :=
  settle_keeps (NoResult s) (fun _ _ hu => hu)
    (fun c u hu => hu.trans ((followUp_noResult c u).trans (refresh_noResult _))) n s id

/-! ### The statement -/

/-- Settles O5: `mem_follows_iff` says what follows, `finish_follow` and `finish_follows` that it is taken until nothing is
left, `settle_noResult` that a result word becomes ready only at the end. -/
theorem effectsAreFollowedInTheirStep : Obligations.EffectsAreFollowedInTheirStep := by
  unfold Obligations.EffectsAreFollowedInTheirStep
  intro s fetched record dismissable armable grantable writes held waited
  refine ⟨fun c => ?_, finish_of_done, finish_follow, finish_follows s, settle mostFollows (refresh s), rfl,
    (refresh_noResult s).trans (settle_noResult _ _)⟩
  have hfetched : s.recordStep = some c ↔ ∃ kind, fetched kind ∧ c = record kind := recordStep_iff s c
  have hnone : s.recordStep = none ↔ ∀ kind, ¬fetched kind := recordStep_none_iff s
  have hdismiss : s.dismissReady.isSome = true ↔ dismissable := dismissReady_isSome_iff s
  have harm : (s.mayArm = true ∧ s.candidate.isSome = true) ↔ armable := by
    rw [mayArm_iff, candidate_isSome_iff]
    simp only [armable, and_assoc, ← Option.isSome_iff_ne_none]
  have hgrant : (s.down.accept = true ∧ s.grantClass.isSome = true) ↔ grantable :=
    and_congr_right' (grantClass_isSome_iff s)
  have hheld : s.heldReady = true ↔ held := heldReady_iff s
  have hline : s.waitingLineReady = some c ↔ waited ∧ s.ownStep = some c := waitingLineReady_iff s c
  rw [mem_follows_iff, hfetched, hnone, hdismiss, harm, hgrant, hheld, hline]

end Sys2Proof.Machine
end

section
/-! PROOFS. Requests on held bands and the hold timer (04): a refused write (O14), reads sent toward memory or held (O16), and
the expiry of a hold timer (O45). -/

namespace Sys2Proof.Machine

/-! ### Bands and reads -/

theorem inRange_iff (r : Range) (a : Nat) : inRange r a = true ↔ r.1 ≤ a ∧ a < r.1 + r.2 := by
  simp [inRange]

/-- R76: the one hold whose band has a line is the line's hold. -/
theorem holdOf_of_unique {s : State} {line : Nat} {h : HoldNo} {x : Hold} (hx : s.hold.pool[h] = some x)
    (hin : inRange (x.base, x.size) line = true)
    (hone : ∀ (g : HoldNo) (y : Hold), s.hold.pool[g] = some y → inRange (y.base, y.size) line = true → g = h) :
    s.holdOf line = some h := by
  cases hg : s.holdOf line with
  | none =>
    have hno := List.find?_eq_none.1 hg h (List.mem_finRange h)
    simp [hx, hin] at hno
  | some g =>
    obtain ⟨y, hy, hyin⟩ := holdOf_some hg
    rw [hone g y hy hyin]

/-- R114, R124: with no entry of its line queued, a read sent toward memory joins the READ class. -/
theorem forward_ready {r : PortRead} {s : State} (h : s.pwq.snapshot (lineOf r.addr.toNat) = []) :
    s.forward r = { s with reads := { s.reads with ready := s.reads.ready ++ [r] } } := by
  unfold State.forward
  rw [h]

/-- R114: with entries of its line queued, a read waits for them. -/
theorem forward_waits {r : PortRead} {s : State} (h : s.pwq.snapshot (lineOf r.addr.toNat) ≠ []) :
    s.forward r = { s with reads := { s.reads with
      waiting := s.reads.waiting ++ [{ read := r, snapshot := s.pwq.snapshot (lineOf r.addr.toNat) }] } } := by
  obtain ⟨id, ids, hids⟩ := List.exists_cons_of_ne_nil h
  unfold State.forward
  rw [hids]

/-- The port with a master's flag set (R99). -/
def State.withFlag (m : Master) (s : State) : State :=
  { s with port := { s.port with outstanding := s.port.outstanding.set m true } }

/-- R106: a read of no held band. -/
theorem decodeRead_free {r : ReadReq} {s : State} (h : s.holdOf (addrLine r.addr) = none) :
    s.decodeRead r =
      (s.withFlag r.master).forward { master := r.master, addr := r.addr, beats := r.beats, stale := false } := by
  simp only [State.decodeRead, h]
  rfl

/-- R83: a read of a held band. -/
theorem decodeRead_held {r : ReadReq} {s : State} {h : HoldNo} {x : Hold} (hh : s.holdOf (addrLine r.addr) = some h)
    (hx : s.hold.pool[h] = some x) : s.decodeRead r = (s.withFlag r.master).heldReadArrives h x.policy r := by
  simp only [State.decodeRead, hh, hx]
  rfl

/-! ### The statements -/

/-- Settles O14: a write that the port takes is decoded, and its class says what becomes of it. -/
theorem heldWriteIsRefused : Obligations.HeldWriteIsRefused := by
  unfold Obligations.HeldWriteIsRefused
  intro w s htakes hclass
  have hdecode : s.decodeWrite w = (s.answer w.master .fault []).offer (.writeRefused w.master (addrLine w.addr)) := by
    simp only [State.decodeWrite, hclass]
  exact exec_of_effect (htakes.present.trans hdecode)

/-- Settles O16: `forward_ready` and `forward_waits` for a read sent on, `decodeRead_free` and `decodeRead_held` for a request. -/
theorem readsAreForwardedOrHeld : Obligations.ReadsAreForwardedOrHeld := by
  unfold Obligations.ReadsAreForwardedOrHeld
  refine ⟨?_, fun r s htakes hno => exec_of_effect ?_, ?_⟩
  · intro r s ids
    exact ⟨forward_ready, forward_waits⟩
  · refine htakes.present.trans (decodeRead_free (holdOf_none fun g y hy => ?_))
    exact Bool.eq_false_iff.2 fun hin => hno g y hy ((inRange_iff _ _).1 hin)
  · intro r s h x htakes hx hbase hend hone a
    have hhold : s.holdOf (addrLine r.addr) = some h :=
      holdOf_of_unique hx ((inRange_iff _ _).2 ⟨hbase, hend⟩) fun g y hy hin => by
        obtain ⟨hlow, hhigh⟩ := (inRange_iff _ _).1 hin
        exact hone g y hy hlow hhigh
    have hdecode := htakes.present.trans (decodeRead_held hhold hx)
    refine ⟨fun hpass => exec_of_effect (hdecode.trans ?_), fun hwait => exec_of_effect (hdecode.trans ?_)⟩
    · rw [hpass]
      rfl
    · rw [hwait]
      rfl

/-- Settles O45: of the queued reads the master's one alone is taken out and sent on. -/
theorem holdTimerExpirySendsTheReadStale : Obligations.HoldTimerExpirySendsTheReadStale := by
  unfold Obligations.HoldTimerExpirySendsTheReadStale
  rintro s m r a b hqueue rfl hothers
  have hout : ∀ l : List HeldRead, (∀ x ∈ l, x ∈ a ++ b) → l.filter (·.master == r.master) = [] := fun l hl =>
    List.filter_eq_nil_iff.2 fun x hx => by simpa using hothers x (hl x hx)
  have hstay : ∀ l : List HeldRead, (∀ x ∈ l, x ∈ a ++ b) → l.filter (!·.master == r.master) = l := fun l hl =>
    List.filter_eq_self.2 fun x hx => by simpa using hothers x (hl x hx)
  have hsent : s.hold.queue.filter (·.master == r.master) = [r] := by
    rw [hqueue, List.filter_append, List.filter_cons_of_pos (by simp), hout a (by simp +contextual),
      hout b (by simp +contextual)]
    rfl
  have hrest : s.hold.queue.filter (!·.master == r.master) = a ++ b := by
    rw [hqueue, List.filter_append, List.filter_cons_of_neg (by simp), hstay a (by simp +contextual),
      hstay b (by simp +contextual)]
  refine exec_of_effect ?_
  show holdTimerExpiry r.master s = _
  rw [holdTimerExpiry, State.takeOut, hsent, hrest]
  rfl

end Sys2Proof.Machine
end

section
/-! PROOFS. The law of the masters' reads (O55): reads that change their place, and the operations that move them. -/

namespace Sys2Proof.Machine

/-! ### Reads that change their place -/

/-- Every place of the Held-Read Queue names a HELD hold (R86). -/
def State.QueueHeld (s : State) : Prop := ∀ r ∈ s.hold.queue, s.hold.pool[r.hold].isSome = true

/-- Every read that waits has entries to wait for (R114). -/
def State.WaitsForSome (s : State) : Prop := ∀ w ∈ s.reads.waiting, w.snapshot ≠ []

/-- The reads on their way are those of the same masters, each at some place of its way. -/
structure SameReads (s t : State) : Prop where
  outstanding : t.port.outstanding = s.port.outstanding
  masters : t.readMasters.Perm s.readMasters
  waits : s.WaitsForSome → t.WaitsForSome

section
variable {s t : State}

theorem SameReads.trans {u : State} (h : SameReads s t) (g : SameReads t u) : SameReads s u :=
  ⟨g.outstanding.trans h.outstanding, g.masters.trans h.masters, g.waits ∘ h.waits⟩

theorem ReadsLaw.moved (law : ReadsLaw s) (h : SameReads s t) (held : s.QueueHeld → t.QueueHeld) : ReadsLaw t where
  single := h.masters.nodup_iff.2 law.single
  flags m := by rw [h.outstanding, law.flags m, h.masters.mem_iff]
  held := held law.held
  waits := h.waits law.waits

/-- The reads stand as they did when the flags, the ways and the queue's masters do. -/
theorem sameReads_of_eq (hflags : t.port.outstanding = s.port.outstanding) (hreads : t.reads = s.reads)
    (hqueue : t.hold.queue.map (·.master) = s.hold.queue.map (·.master)) : SameReads s t := by
  refine ⟨hflags, ?_, ?_⟩
  · rw [State.readMasters, State.readMasters, hreads, hqueue]
  · rw [State.WaitsForSome, State.WaitsForSome, hreads]
    exact id

theorem ReadsLaw.congr (law : ReadsLaw s) (hflags : t.port.outstanding = s.port.outstanding) (hreads : t.reads = s.reads)
    (hhold : t.hold = s.hold) : ReadsLaw t := by
  refine law.moved (sameReads_of_eq hflags hreads (by rw [hhold])) ?_
  rw [State.QueueHeld, State.QueueHeld, hhold]
  exact id

/-- The flag of a master is set as its read starts its way (R99). -/
theorem ReadsLaw.taken {m : Master} (law : ReadsLaw s) (hflag : s.port.outstanding[m] = false)
    (hset : t.port.outstanding = s.port.outstanding.set m true) (hmasters : t.readMasters.Perm (m :: s.readMasters))
    (held : t.QueueHeld) (waits : t.WaitsForSome) : ReadsLaw t where
  single := by
    refine hmasters.nodup_iff.2 (List.nodup_cons.2 ⟨fun hm => ?_, law.single⟩)
    rw [(law.flags m).2 hm] at hflag
    cases hflag
  flags m' := by
    rw [hset, hmasters.mem_iff, List.mem_cons, getElem_set_fin, ← law.flags m']
    by_cases hm : m' = m <;> simp [hm]
  held := held
  waits := waits

/-- The flag of a master is cleared as its read is answered (R132). -/
theorem ReadsLaw.answered {m : Master} (law : ReadsLaw s) (hclear : t.port.outstanding = s.port.outstanding.set m false)
    (hmasters : t.readMasters = s.readMasters.filter (· != m)) (hhold : t.hold = s.hold)
    (hwaits : t.reads.waiting = s.reads.waiting) : ReadsLaw t where
  single := by
    rw [hmasters]
    exact law.single.filter _
  flags m' := by
    rw [hclear, hmasters, getElem_set_fin, List.mem_filter, ← law.flags m']
    by_cases hm : m' = m <;> simp [hm]
  held := by
    rw [hhold]
    exact law.held
  waits := by
    rw [hwaits]
    exact law.waits

end

/-! ### Reads sent toward memory -/

/-- Reads of some masters have been sent toward memory. -/
structure Sent (s t : State) (ms : List Master) : Prop where
  outstanding : t.port.outstanding = s.port.outstanding
  hold : t.hold = s.hold
  masters : t.readMasters.Perm (ms ++ s.readMasters)
  waits : s.WaitsForSome → t.WaitsForSome

theorem forward_sent (s : State) (r : PortRead) : Sent s (s.forward r) [r.master] := by
  by_cases h : s.pwq.snapshot (lineOf r.addr.toNat) = []
  · rw [forward_ready h]
    refine ⟨rfl, rfl, List.perm_iff_count.2 fun m => ?_, id⟩
    simp only [State.readMasters, List.map_append, List.count_append, List.map_cons, List.map_nil, List.count_cons,
      List.count_nil]
    omega
  · rw [forward_waits h]
    refine ⟨rfl, rfl, List.perm_iff_count.2 fun m => ?_, fun hs w hw => ?_⟩
    · simp only [State.readMasters, List.map_append, List.count_append, List.map_cons, List.map_nil, List.count_cons,
        List.count_nil]
      omega
    · rcases List.mem_append.1 hw with hold | hnew
      · exact hs w hold
      · rw [List.mem_singleton.1 hnew]
        exact h

theorem forwardStale_sent (s : State) (cause : StaleCause) (r : HeldRead) :
    Sent s (s.forwardStale cause r) [r.master] := by
  obtain ⟨houtstanding, hhold, hmasters, hwaits⟩ := forward_sent s (r.toRead true)
  have hreads : (s.forwardStale cause r).reads = (s.forward (r.toRead true)).reads := by simp [State.forwardStale]
  refine ⟨by simp, by simp, ?_, ?_⟩
  · have hsame : (s.forwardStale cause r).readMasters = (s.forward (r.toRead true)).readMasters := by
      simp [State.readMasters, hreads]
    rw [hsame]
    exact hmasters
  · unfold State.WaitsForSome at hwaits ⊢
    rwa [hreads]

theorem foldl_sent {f : HeldRead → State → State} (hf : ∀ r s, Sent s (f r s) [r.master]) (rs : List HeldRead)
    (s : State) : Sent s (rs.foldl (fun s r => f r s) s) (rs.map (·.master)) := by
  induction rs generalizing s with
  | nil => exact ⟨rfl, rfl, .refl _, id⟩
  | cons r rs ih =>
    obtain ⟨houtstanding, hhold, hmasters, hwaits⟩ := hf r s
    obtain ⟨houtstanding', hhold', hmasters', hwaits'⟩ := ih (f r s)
    refine ⟨houtstanding'.trans houtstanding, hhold'.trans hhold, hmasters'.trans ?_, hwaits' ∘ hwaits⟩
    refine (hmasters.append_left _).trans (List.perm_iff_count.2 fun m => ?_)
    simp only [List.map_cons, List.count_append, List.count_cons, List.count_nil]
    omega

/-- Reads taken out of the Held-Read Queue and sent on change their place alone. -/
theorem takeOut_reads {f : HeldRead → State → State} (hf : ∀ r s, Sent s (f r s) [r.master]) (p : HeldRead → Bool)
    (s : State) : SameReads s (s.takeOut p f)
      ∧ (s.takeOut p f).hold = { s.hold with queue := s.hold.queue.filter (!p ·) } := by
  obtain ⟨houtstanding, hhold, hmasters, hwaits⟩ := foldl_sent hf (s.hold.queue.filter p)
    { s with hold := { s.hold with queue := s.hold.queue.filter (!p ·) } }
  refine ⟨⟨houtstanding, hmasters.trans (List.perm_iff_count.2 fun m => ?_), hwaits⟩, hhold⟩
  have hparts := ((List.filter_append_perm p s.hold.queue).map (·.master)).count_eq m
  simp only [List.map_append, List.count_append] at hparts
  simp only [State.readMasters, List.count_append]
  omega

/-- Holds may become FREE as the reads that wait on them are taken out (R80, R81). -/
theorem takeOut_readsLaw {s u : State} {f : HeldRead → State → State} {p : HeldRead → Bool} (law : ReadsLaw s)
    (hf : ∀ r s, Sent s (f r s) [r.master]) (hflags : u.port.outstanding = s.port.outstanding) (hreads : u.reads = s.reads)
    (hqueue : u.hold.queue = s.hold.queue)
    (hpool : ∀ r : HeldRead, p r = false → u.hold.pool[r.hold] = s.hold.pool[r.hold]) : ReadsLaw (u.takeOut p f) := by
  obtain ⟨same, hhold⟩ := takeOut_reads hf p u
  refine law.moved ((sameReads_of_eq hflags hreads (by rw [hqueue])).trans same) fun h r hr => ?_
  rw [hhold] at hr ⊢
  simp only [hqueue, List.mem_filter, Bool.not_eq_true'] at hr
  obtain ⟨hmem, hstays⟩ := hr
  exact (congrArg Option.isSome (hpool r hstays)).trans (h r hmem)

/-! ### Holds (R80, R81, R87) -/

section
variable {s : State}

theorem holdTimerExpiry_reads (m : Master) (law : ReadsLaw s) : ReadsLaw (holdTimerExpiry m s) :=
  takeOut_readsLaw law (fun r s => forwardStale_sent s _ r) rfl rfl rfl fun _ _ => rfl

theorem releaseHold_reads (h : HoldNo) (law : ReadsLaw s) : ReadsLaw (s.releaseHold h) := by
  refine takeOut_readsLaw law (fun r s => forward_sent s (r.toRead false)) rfl rfl rfl fun r hr => ?_
  have hne : r.hold ≠ h := by simpa using hr
  rw [setHold_pool, if_neg hne]

theorem dismissHolds_reads (hs : List HoldNo) (law : ReadsLaw s) : ReadsLaw (s.dismissHolds hs) := by
  refine takeOut_readsLaw law (fun r s => forwardStale_sent s _ r) (by simp) (by simp) (foldSetHold_queue hs s)
    fun r hr => ?_
  have hmem : r.hold ∉ hs := by simpa using hr
  rw [foldSetHold_pool, if_neg hmem]

/-- Holds that become HELD leave the queue's places as they are. -/
theorem ReadsLaw.closing {t : State} (law : ReadsLaw s) (hflags : t.port.outstanding = s.port.outstanding)
    (hreads : t.reads = s.reads) (hqueue : t.hold.queue = s.hold.queue)
    (hpool : ∀ h : HoldNo, s.hold.pool[h].isSome = true → t.hold.pool[h].isSome = true) : ReadsLaw t := by
  refine law.moved (sameReads_of_eq hflags hreads (by rw [hqueue])) fun h r hr => ?_
  rw [hqueue] at hr
  exact hpool r.hold (h r hr)

theorem acceptPlate_reads (p : SlotNo) (ws : List Word) (law : ReadsLaw s) : ReadsLaw (s.acceptPlate p ws) := by
  obtain ⟨tiles, pool, heq, -, -, hheld, hrest⟩ := acceptPlate_eq s p ws
  rw [heq]
  refine law.closing rfl rfl rfl fun h hh => ?_
  show pool[h].isSome = true
  by_cases hb : ∃ b, (s.newPlate ws).bandHold b = some h
  · obtain ⟨b, hb⟩ := hb
    rw [hheld b h hb]
    rfl
  · rw [hrest h fun b hbh => hb ⟨b, hbh⟩]
    exact hh

theorem closeBand_reads (p : SlotNo) (row : Nat) (law : ReadsLaw s) : ReadsLaw (s.closeBand p row) := by
  unfold State.closeBand
  split
  · exact law
  split
  · next h _ _ _ =>
    refine law.closing rfl rfl rfl fun g hg => ?_
    rw [modPlate_hold, setHold_pool]
    split
    · rfl
    · exact hg
  · exact law

theorem acceptRetake_reads (p : SlotNo) (t : TileNo) (tile : Tile) (law : ReadsLaw s) :
    ReadsLaw (s.acceptRetake p t tile) :=
  closeBand_reads p tile.row (law.congr rfl rfl rfl)

/-! ### Fence delivery and DISMISS (02) -/

theorem finishBand_reads (p : SlotNo) (row : Nat) (law : ReadsLaw s) : ReadsLaw (s.finishBand p row) := by
  unfold State.finishBand
  split
  · exact law
  split
  · split
    · exact law
    · next h _ => exact (releaseHold_reads h law).congr rfl rfl rfl
  · exact law

theorem endTile_reads (t : TileNo) (tile : Tile) (final : TileState) (count : Plate → Plate) (r : Record)
    (law : ReadsLaw s) : ReadsLaw (s.endTile t tile final count r) := by
  let v := (s.setTile t (some { tile with state := final, reservation := 0 })).modPlate tile.slot count
  have hv : ReadsLaw v := law.congr rfl rfl rfl
  exact (finishBand_reads tile.slot tile.row hv).congr (by simp [v]) (by simp [State.endTile, v])
    (by simp [State.endTile, v])

theorem deliverFence_reads (t : TileNo) (law : ReadsLaw s) : ReadsLaw (s.deliverFence t) := by
  unfold State.deliverFence
  split
  · exact law
  split
  · split
    · exact endTile_reads _ _ _ _ _ law
    · exact endTile_reads _ _ _ _ _ law
  · exact endTile_reads _ _ _ _ _ law
  · exact law.congr (by simp) (by simp) (by simp)
  · exact law

theorem closeCurrent_reads (t : TileNo) (tile : Tile) (o : ClosingOutcome) (heat : Option Nat) (law : ReadsLaw s) :
    ReadsLaw (s.closeCurrent t tile o heat) := by
  cases hc : s.merge.lastCarrier with
  | some id =>
    rw [closeCurrent_carrier _ _ _ _ hc]
    exact law.congr rfl rfl rfl
  | none =>
    rw [closeCurrent_noCarrier _ _ _ _ hc]
    exact deliverFence_reads t (law.congr rfl rfl rfl)

theorem discardCurrent_reads (p : SlotNo) (law : ReadsLaw s) : ReadsLaw (s.discardCurrent p) := by
  unfold State.discardCurrent
  split
  · exact law
  · split
    · exact closeCurrent_reads _ _ _ _ law
    · exact law

theorem discardPlate_reads (p : SlotNo) (plate : Plate) (law : ReadsLaw s) : ReadsLaw (s.discardPlate p plate) := by
  let u := plate.tiles.foldl (fun s t => s.giveUpTile t) (plate.tiles.foldl (fun s t => s.modTile t Tile.discard) s)
  have hu : ReadsLaw u := law.congr (by simp [u]) (by simp [u]) (by simp [u])
  exact (dismissHolds_reads (plate.bandHolds.filterMap id) hu).congr (by simp [State.discardPlate, u])
    (by simp [State.discardPlate, u]) (by simp [State.discardPlate, u])

theorem acceptDismiss_reads (p : SlotNo) (plate : Plate) (law : ReadsLaw s) : ReadsLaw (s.acceptDismiss p plate) := by
  have hmarked : ReadsLaw (s.modPlate p fun pl => { pl with dismissReserved := true }) :=
    law.congr rfl rfl rfl
  unfold State.acceptDismiss
  simp only []
  split
  · exact hmarked.congr (by simp) (by simp) (by simp)
  · exact discardPlate_reads p plate (discardCurrent_reads p hmarked)
  · exact hmarked

theorem dismissReservation_reads (law : ReadsLaw s) : ReadsLaw (dismissReservation s) := by
  unfold dismissReservation
  split
  · exact law
  · next p plate _ =>
    have hreserved : ReadsLaw (s.reserve 1) := law.congr rfl rfl rfl
    exact (acceptDismiss_reads p plate hreserved).congr (by simp) (by simp) (by simp)

/-! ### Requests, grants and responses (05, 06) -/

theorem withFlag_sent {t : State} {m : Master} (law : ReadsLaw s) (hflag : s.port.outstanding[m] = false)
    (h : Sent (s.withFlag m) t [m]) : ReadsLaw t := by
  obtain ⟨houtstanding, hhold, hmasters, hwaits⟩ := h
  refine law.taken hflag houtstanding hmasters ?_ (hwaits law.waits)
  rw [State.QueueHeld, hhold]
  exact law.held

theorem decodeRead_reads (r : ReadReq) (hflag : s.port.outstanding[r.master] = false) (law : ReadsLaw s) :
    ReadsLaw (s.decodeRead r) := by
  cases hh : s.holdOf (addrLine r.addr) with
  | none =>
    rw [decodeRead_free hh]
    exact withFlag_sent law hflag (forward_sent _ _)
  | some h =>
    obtain ⟨x, hx, -⟩ := holdOf_some hh
    rw [decodeRead_held hh hx]
    cases x.policy with
    | pass => exact withFlag_sent law hflag (forwardStale_sent _ _ _)
    | wait =>
      refine law.taken hflag rfl (List.perm_iff_count.2 fun m => ?_) (fun q hq => ?_) law.waits
      · simp only [State.heldReadArrives, State.withFlag, State.readMasters, List.map_append, List.count_append,
          List.map_cons, List.map_nil, List.count_cons, List.count_nil]
        omega
      · rcases List.mem_append.1 hq with hold | hnew
        · exact law.held q hold
        · rw [List.mem_singleton.1 hnew]
          exact Option.isSome_of_eq_some hx

theorem presentRead_reads (r : ReadReq) (law : ReadsLaw s) : ReadsLaw (s.presentRead r) := by
  unfold State.presentRead
  split
  · exact law.congr rfl rfl rfl
  split
  · exact law
  · next hfree =>
    have hflag : s.port.outstanding[r.master] = false := by
      simp only [State.blocked, Bool.or_eq_true, not_or, Bool.not_eq_true] at hfree
      exact hfree.1
    exact decodeRead_reads r hflag law

theorem grantRead_reads (law : ReadsLaw s) : ReadsLaw s.grantRead := by
  unfold State.grantRead
  split
  · exact law
  · next r rest hready =>
    refine law.moved ⟨rfl, List.perm_iff_count.2 fun m => ?_, id⟩ id
    simp only [State.readMasters, issue_hold, issue_reads, hready, List.map_append, List.count_append, List.map_cons,
      List.map_nil, List.count_cons, List.count_nil]
    omega

theorem arbiterGrant_reads (law : ReadsLaw s) : ReadsLaw (arbiterGrant s) := by
  unfold arbiterGrant
  split
  · exact law.congr rfl rfl rfl
  next c _ =>
  have hready : ReadsLaw { s.moveRotation c with down := { (s.moveRotation c).down with accept := false } } :=
    law.congr (by simp) (by simp) (by simp)
  cases c with
  | read => exact grantRead_reads hready
  | drain =>
    simp only [State.grant, State.grantDrain]
    split <;> exact hready.congr rfl rfl rfl
  | fetch =>
    simp only [State.grant, State.grantFetch]
    split
    · exact hready.congr rfl rfl rfl
    · exact hready

/-- The masters but one, whose read is outstanding downstream. -/
theorem readMasters_without {m : Master} {r : PortRead} (law : ReadsLaw s) (hr : r ∈ s.reads.out) (hm : r.master = m) :
    State.readMasters { s with reads := { s.reads with out := s.reads.out.filter (·.master != m) } } =
      s.readMasters.filter (· != m) := by
  have hout : m ∈ s.reads.out.map (·.master) := List.mem_map.2 ⟨r, hr, hm⟩
  obtain ⟨-, -, hapart⟩ := List.nodup_append'.1 law.single
  simp only [State.readMasters]
  rw [List.filter_append, List.filter_map]
  congr 1
  refine (List.filter_eq_self.2 fun x hx => ?_).symm
  exact bne_iff_ne.2 fun hxm => hapart hx (hxm ▸ hout)

theorem readResponds_reads (m : Master) (st : DownStatus) (d : List Word) (law : ReadsLaw s) :
    ReadsLaw (s.readResponds m st d) := by
  unfold State.readResponds
  split
  · exact law
  · next r hr =>
    have hm : r.master = m := by simpa using List.find?_some hr
    have hmasters := readMasters_without law (List.mem_of_find?_eq_some hr) hm
    cases st with
    | ok => exact law.answered rfl hmasters rfl rfl
    | fault => exact law.answered rfl hmasters rfl rfl

/-- R114, R117: a read whose last entry has retired joins the READ class. -/
theorem leaveSnapshots_reads (id : Nat) (law : ReadsLaw s) : ReadsLaw (s.leaveSnapshots id) := by
  refine law.moved ⟨rfl, List.perm_iff_count.2 fun m => ?_, fun _ w hw => ?_⟩ fun h => h
  · let ws := s.reads.waiting.map (WaitingRead.without id)
    have hparts := ((List.filter_append_perm (·.snapshot.isEmpty) ws).map (·.read.master)).count_eq m
    have hws : ws.map (·.read.master) = s.reads.waiting.map (·.read.master) := by
      simp [ws, WaitingRead.without]
    rw [hws] at hparts
    simp only [List.map_append, List.count_append] at hparts
    simp only [State.readMasters, State.leaveSnapshots, List.map_append, List.count_append, List.map_map,
      Function.comp_def]
    simp only [ws] at hparts
    omega
  · obtain ⟨-, hne⟩ := List.mem_filter.1 hw
    simpa using hne

/-- R85: a 1 µs tick counts the hold timers alone. -/
theorem usTick_reads (law : ReadsLaw s) : ReadsLaw s.usTick := by
  refine law.moved (sameReads_of_eq rfl rfl (by simp [State.usTick])) fun h r hr => ?_
  obtain ⟨q, hq, rfl⟩ := List.mem_map.1 hr
  exact h q hq

theorem reset_reads (lines : StageLines) (straps : BitVec 12) (s : State) : ReadsLaw (powerOnReset lines straps s) where
  single := List.nodup_nil
  flags m := by simp [powerOnReset, State.resetWith, State.readMasters]
  held := by simp [powerOnReset, State.resetWith]
  waits := by simp [powerOnReset, State.resetWith]

end

end Sys2Proof.Machine
end

section
/-! PROOFS. The law of the holds (O57): what it asks of one plate, and its changes at one plate. -/

namespace Sys2Proof.Machine

/-! ### The law, plate by plate -/

/-- What the law asks of the plate in a slot (R82). -/
structure PlateHolds (s : State) (p : SlotNo) (plate : Plate) : Prop where
  lists : plate.bandHolds.length = plate.geo.rows
  held : ∀ (b : Nat) (h : HoldNo), plate.bandHold b = some h → s.hold.pool[h] = some (holdFor p plate b)
  single : ∀ (b b' : Nat) (h : HoldNo), plate.bandHold b = some h → plate.bandHold b' = some h → b = b'
  unfinished : plate.state = .assembling ∨ plate.state = .complete → ∀ b < plate.geo.rows,
    ((plate.bandHold b).isSome = true ↔ ∃ x ∈ plate.rowTiles b, s.tileIs Tile.final x = false)
  dismissing : ∀ d f, plate.state = .dismissing d f → ∀ b, plate.bandHold b = none

/-- A HELD hold names the slot of the plate whose band it closes, so the law needs no more than this of two plates. -/
theorem holdLaw_iff (s : State) :
    HoldLaw s ↔ (∀ (p : SlotNo) plate, s.asm.plates[p] = some plate → PlateHolds s p plate)
      ∧ ∀ (h : HoldNo) (x : Hold), s.hold.pool[h] = some x →
        ∃ plate b, s.asm.plates[x.slot] = some plate ∧ plate.bandHold b = some h := by
  constructor
  · intro law
    refine ⟨fun p plate hp => ⟨law.lists p plate hp, law.held p plate hp, fun b b' h hb hb' => ?_, fun hlive b hb => ?_,
      fun d f => law.dismissing p plate d f hp⟩, fun h x hx => ?_⟩
    · obtain ⟨-, hsame⟩ := law.single p p plate plate b b' h hp hp hb hb'
      exact hsame
    · exact law.unfinished p plate hp b hb hlive
    · obtain ⟨p, plate, b, hp, hb⟩ := law.named h (Option.isSome_of_eq_some hx)
      have heq := law.held p plate hp b h hb
      rw [hx] at heq
      cases heq
      exact ⟨plate, b, hp, hb⟩
  · rintro ⟨plates, named⟩
    refine ⟨fun p plate hp => (plates p plate hp).lists, fun p plate hp => (plates p plate hp).held, fun h hh => ?_,
      fun p p' plate plate' b b' h hp hp' hb hb' => ?_, fun p plate hp b hb hlive => (plates p plate hp).unfinished hlive b hb,
      fun p plate d f hp => (plates p plate hp).dismissing d f⟩
    · obtain ⟨x, hx⟩ := Option.isSome_iff_exists.1 hh
      obtain ⟨plate, b, hp, hb⟩ := named h x hx
      exact ⟨x.slot, plate, b, hp, hb⟩
    · have heq := ((plates p plate hp).held b h hb).symm.trans ((plates p' plate' hp').held b' h hb')
      have hslot : p = p' := congrArg Hold.slot (Option.some.inj heq)
      subst hslot
      rw [hp] at hp'
      cases hp'
      exact ⟨rfl, (plates p plate hp).single b b' h hb hb'⟩

section
variable {s t : State} {p : SlotNo} {plate : Plate}

theorem HoldLaw.at (law : HoldLaw s) (hp : s.asm.plates[p] = some plate) : PlateHolds s p plate :=
  ((holdLaw_iff s).1 law).1 p plate hp

/-- A HELD hold of a plate's slot is named by the plate. -/
theorem HoldLaw.namedBy (law : HoldLaw s) (hp : s.asm.plates[p] = some plate) {h : HoldNo} {x : Hold}
    (hx : s.hold.pool[h] = some x) (hslot : x.slot = p) : ∃ b, plate.bandHold b = some h := by
  subst hslot
  obtain ⟨pl, b, hpl, hb⟩ := ((holdLaw_iff s).1 law).2 h x hx
  rw [hp] at hpl
  cases hpl
  exact ⟨b, hb⟩

/-- No HELD hold names a FREE slot. -/
theorem HoldLaw.unnamed (law : HoldLaw s) (hp : s.asm.plates[p] = none) {h : HoldNo} {x : Hold}
    (hx : s.hold.pool[h] = some x) : x.slot ≠ p := by
  rintro rfl
  obtain ⟨pl, b, hpl, hb⟩ := ((holdLaw_iff s).1 law).2 h x hx
  rw [hp] at hpl
  cases hpl

theorem mem_tiles_of_rowTiles {b : Nat} {x : TileNo} (hx : x ∈ plate.rowTiles b) : x ∈ plate.tiles :=
  List.mem_of_mem_drop (List.mem_of_mem_take hx)

/-- A plate whose tiles are as final as before, and whose holds stand, keeps its part of the law. -/
theorem PlateHolds.congr (law : PlateHolds s p plate)
    (hpool : ∀ b h, plate.bandHold b = some h → t.hold.pool[h] = s.hold.pool[h])
    (hfinal : ∀ x ∈ plate.tiles, t.tileIs Tile.final x = s.tileIs Tile.final x) : PlateHolds t p plate where
  lists := law.lists
  held b h hb := (hpool b h hb).trans (law.held b h hb)
  single := law.single
  unfinished hlive b hb := by
    rw [law.unfinished hlive b hb]
    refine exists_congr fun x => and_congr_right fun hx => ?_
    rw [hfinal x (mem_tiles_of_rowTiles hx)]
  dismissing := law.dismissing

/-- The other plates, their tiles' final states and their holds stand. -/
structure Around (s t : State) (p : SlotNo) : Prop where
  plates : ∀ q : SlotNo, q ≠ p → t.asm.plates[q] = s.asm.plates[q]
  final : ∀ (q : SlotNo) plate, q ≠ p → s.asm.plates[q] = some plate → ∀ x ∈ plate.tiles,
    t.tileIs Tile.final x = s.tileIs Tile.final x
  pool : ∀ (h : HoldNo) (x : Hold), x.slot ≠ p → (t.hold.pool[h] = some x ↔ s.hold.pool[h] = some x)

/-- After a change around one slot, only that slot's plate and holds are asked for. -/
theorem HoldLaw.around (law : HoldLaw s) (h : Around s t p)
    (here : ∀ plate, t.asm.plates[p] = some plate → PlateHolds t p plate)
    (named : ∀ (h : HoldNo) (x : Hold), t.hold.pool[h] = some x → x.slot = p →
      ∃ plate b, t.asm.plates[p] = some plate ∧ plate.bandHold b = some h) : HoldLaw t := by
  refine (holdLaw_iff t).2 ⟨fun q plate hq => ?_, fun g x hx => ?_⟩
  · by_cases hqp : q = p
    · subst hqp
      exact here plate hq
    · rw [h.plates q hqp] at hq
      have hplate := law.at hq
      refine hplate.congr (fun b g hb => ?_) (h.final q plate hqp hq)
      have hg := hplate.held b g hb
      rw [hg]
      exact (h.pool g (holdFor q plate b) hqp).2 hg
  · by_cases hslot : x.slot = p
    · obtain ⟨plate, b, hp, hb⟩ := named g x hx hslot
      exact ⟨plate, b, by rwa [← hslot] at hp, hb⟩
    · have hold := (h.pool g x hslot).1 hx
      obtain ⟨plate, b, hq, hb⟩ := ((holdLaw_iff s).1 law).2 g x hold
      exact ⟨plate, b, (h.plates x.slot hslot).trans hq, hb⟩

/-- A change to one plate and its tiles is one around its slot when it takes no hold of another. -/
theorem Outside.around (h : Outside s t p plate) (law : AssemblyLaw s)
    (hpool : ∀ (h : HoldNo) (x : Hold), x.slot ≠ p → (t.hold.pool[h] = some x ↔ s.hold.pool[h] = some x)) :
    Around s t p := by
  refine ⟨h.plates, fun q pl hqp hq x hx => ?_, hpool⟩
  simp only [State.tileIs, h.other law hqp hq hx]

/-! ### A plate without holds becomes FREE (R45, R47) -/

theorem Outside.freed_holds (h : Outside s t p plate) (law : AssemblyLaw s) (holds : HoldLaw s)
    (hnone : ∀ b, plate.bandHold b = none) (hfree : t.asm.plates[p] = none) (hhold : t.hold.pool = s.hold.pool) :
    HoldLaw t := by
  refine holds.around (h.around law fun g x _ => by rw [hhold]) (fun pl hpl => ?_) fun g x hx hslot => ?_
  · rw [hfree] at hpl
    cases hpl
  · rw [hhold] at hx
    obtain ⟨b, hb⟩ := holds.namedBy h.here hx hslot
    rw [hnone b] at hb
    cases hb

/-! ### One band of a plate changes -/

/-- What a change of one band leaves of its plate. -/
def Plate.layout (p : Plate) : Geometry × Policy × List TileNo × Nat := (p.geo, p.policy, p.tiles, p.bandHolds.length)

/-- A plate of which one band alone changes, with its hold and its tiles. -/
structure OneBand (s t : State) (plate changed : Plate) (row : Nat) : Prop where
  layout : changed.layout = plate.layout
  bands : ∀ b, b ≠ row → changed.bandHold b = plate.bandHold b
  pool : ∀ (b : Nat) (h : HoldNo), b ≠ row → plate.bandHold b = some h → t.hold.pool[h] = s.hold.pool[h]
  final : ∀ b, b ≠ row → ∀ x ∈ plate.rowTiles b, t.tileIs Tile.final x = s.tileIs Tile.final x
  live : changed.state = .assembling ∨ changed.state = .complete → plate.state = .assembling ∨ plate.state = .complete

theorem OneBand.plateHolds {changed : Plate} {row : Nat} (h : OneBand s t plate changed row) (law : PlateHolds s p plate)
    (hheld : ∀ h, changed.bandHold row = some h → t.hold.pool[h] = some (holdFor p plate row)
      ∧ ∀ b, b ≠ row → plate.bandHold b ≠ some h)
    (hrow : changed.state = .assembling ∨ changed.state = .complete → row < plate.geo.rows →
      ((changed.bandHold row).isSome = true ↔ ∃ x ∈ plate.rowTiles row, t.tileIs Tile.final x = false))
    (hdismissing : ∀ d f, changed.state = .dismissing d f → ∀ b, changed.bandHold b = none) : PlateHolds t p changed := by
  have hlayout := h.layout
  simp only [Plate.layout, Prod.mk.injEq] at hlayout
  obtain ⟨hgeo, hpolicy, htiles, hlength⟩ := hlayout
  have hfor : ∀ b, holdFor p changed b = holdFor p plate b := fun b => by simp only [holdFor, hgeo, hpolicy]
  have hrows : ∀ b, changed.rowTiles b = plate.rowTiles b := fun b => by simp only [Plate.rowTiles, htiles, hgeo]
  refine ⟨by rw [hlength, hgeo, law.lists], fun b g hb => ?_, fun b b' g hb hb' => ?_, fun hlive b hb => ?_, hdismissing⟩
  · rw [hfor]
    by_cases hbr : b = row
    · subst hbr
      obtain ⟨hg, -⟩ := hheld g hb
      exact hg
    · rw [h.bands b hbr] at hb
      exact (h.pool b g hbr hb).trans (law.held b g hb)
  · by_cases hbr : b = row <;> by_cases hbr' : b' = row
    · exact hbr.trans hbr'.symm
    · obtain ⟨-, hapart⟩ := hheld g (hbr ▸ hb)
      exact absurd ((h.bands b' hbr').symm.trans hb') (hapart b' hbr')
    · obtain ⟨-, hapart⟩ := hheld g (hbr' ▸ hb')
      exact absurd ((h.bands b hbr).symm.trans hb) (hapart b hbr)
    · rw [h.bands b hbr] at hb
      rw [h.bands b' hbr'] at hb'
      exact law.single b b' g hb hb'
  · rw [hgeo] at hb
    rw [hrows]
    by_cases hbr : b = row
    · subst hbr
      exact hrow hlive hb
    · rw [h.bands b hbr, law.unfinished (h.live hlive) b hb]
      refine exists_congr fun x => and_congr_right fun hx => ?_
      rw [h.final b hbr x hx]

/-- The tiles of a row, by what they say of their place (R1, R36). -/
theorem mem_rowTiles_iff (law : AssemblyLaw s) (hp : s.asm.plates[p] = some plate) (b : Nat) (x : TileNo) :
    x ∈ plate.rowTiles b ↔ ∃ tile, s.asm.tiles[x] = some tile ∧ tile.slot = p ∧ tile.row = b := by
  obtain ⟨-, hcols⟩ := law.sized p plate hp
  constructor
  · intro hx
    obtain ⟨i, hi⟩ := List.mem_iff_getElem?.1 hx
    rw [Plate.rowTiles, List.getElem?_take] at hi
    split at hi
    · next hlt =>
      rw [List.getElem?_drop] at hi
      obtain ⟨tile, ht, hslot, -, hrow, -⟩ := law.listed p plate hp _ x hi
      refine ⟨tile, ht, hslot, hrow.trans ?_⟩
      rw [Nat.mul_comm, Nat.mul_add_div hcols, Nat.div_eq_of_lt hlt, Nat.add_zero]
    · cases hi
  · rintro ⟨tile, ht, rfl, rfl⟩
    obtain ⟨pl, hpl, hi⟩ := law.owned x tile ht
    rw [hp] at hpl
    cases hpl
    obtain ⟨tile', ht', -, -, hrow, -⟩ := law.listed _ plate hp _ x hi
    rw [ht] at ht'
    cases ht'
    refine List.mem_iff_getElem?.2 ⟨tile.index % plate.geo.cols, ?_⟩
    rw [Plate.rowTiles, List.getElem?_take, if_pos (Nat.mod_lt _ hcols), List.getElem?_drop, hrow, Nat.div_add_mod', hi]

/-- A tile's change touches its own row alone. -/
theorem TileAndPlate.final {x : TileNo} {tile next : Tile} {changed : Plate}
    (h : TileAndPlate s t x tile next plate changed) (law : AssemblyLaw s) {b : Nat} (hb : b ≠ tile.row) :
    ∀ y ∈ plate.rowTiles b, t.tileIs Tile.final y = s.tileIs Tile.final y := by
  intro y hy
  obtain ⟨other, ho, -, hrow⟩ := (mem_rowTiles_iff law h.owner b y).1 hy
  have hyx : y ≠ x := by
    rintro rfl
    rw [h.before] at ho
    cases ho
    exact hb hrow.symm
  simp only [State.tileIs, h.tileAt, if_neg hyx]

theorem TileAndPlate.outside {x : TileNo} {tile next : Tile} {changed : Plate}
    (h : TileAndPlate s t x tile next plate changed) (law : AssemblyLaw s) : Outside s t tile.slot plate := by
  refine ⟨h.owner, fun q hq => (h.plateAt q).trans (if_neg hq), fun y hy => (h.tileAt y).trans (if_neg ?_)⟩
  rintro rfl
  exact hy ((mem_tiles_iff law h.owner y).2 ⟨tile, h.before, rfl⟩)

end

end Sys2Proof.Machine
end

section
/-! PROOFS. The law of the holds (O57) when a fence is delivered, a plate accepted or dismissed and a tile retaken. -/

namespace Sys2Proof.Machine

section
variable {s : State} {p : SlotNo} {plate : Plate}

/-! ### Fence delivery (R32 to R36) -/

/-- R36, R80: a finished band's hold alone becomes FREE. -/
theorem finishBand_pool {row : Nat} (hp : s.asm.plates[p] = some plate) (g : HoldNo) :
    (s.finishBand p row).hold.pool[g] =
      if s.bandDone plate row = true ∧ plate.bandHold row = some g then none else s.hold.pool[g] := by
  by_cases hstays : s.bandDone plate row = false ∨ plate.bandHold row = none
  · rw [finishBand_goesOn hp hstays, if_neg]
    rintro ⟨hdone, hg⟩
    rcases hstays with h | h
    · simp [h] at hdone
    · simp [h] at hg
  · obtain ⟨hdone, hhold⟩ := not_or.1 hstays
    obtain ⟨h, hh⟩ := Option.ne_none_iff_exists'.1 hhold
    obtain ⟨hpool, -⟩ := releaseHold_eq h (s := s) (b := s) ⟨rfl, rfl, rfl, fun _ => rfl⟩
    rw [finishBand_done hp (by simpa using hdone) hh, modPlate_hold, hpool, getElem_set_fin]
    refine if_congr ?_ rfl rfl
    simp only [Bool.not_eq_false] at hdone
    simp [hdone, hh, eq_comm]

/-- The bands of a plate whose band of a row may be opened. -/
theorem bandHold_ended (final : TileState) (row b : Nat) (banded : Bool) :
    (plate.ended final row banded).bandHold b = if banded = true ∧ b = row then none else plate.bandHold b := by
  cases banded with
  | false => rfl
  | true =>
    simp only [Plate.bandHold, Plate.ended, if_true, List.getElem?_set, true_and]
    by_cases hb : b = row
    · subst hb
      rw [if_pos rfl, if_pos rfl]
      split <;> rfl
    · rw [if_neg (Ne.symm hb), if_neg hb]

theorem ended_state (final : TileState) (row : Nat) (banded : Bool) :
    ((plate.ended final row banded).state = .assembling ∨ (plate.ended final row banded).state = .complete →
      plate.state = .assembling ∨ plate.state = .complete)
    ∧ ∀ d f, (plate.ended final row banded).state = .dismissing d f → plate.state = .dismissing d f := by
  have hall : (plate.countFinal final).allFinal = true → plate.state = .assembling := fun h => by
    simp only [Plate.allFinal, Bool.and_eq_true, beq_iff_eq] at h
    exact h.1
  simp only [Plate.ended]
  split
  · next h => exact ⟨fun _ => .inl (hall h), fun d f hd => by cases hd⟩
  · exact ⟨id, fun d f => id⟩

/-- A tile that is not final belongs to no COMPLETE plate. -/
theorem assembling_of_unfinished {x : TileNo} {tile : Tile} (law : AssemblyLaw s) (ht : s.asm.tiles[x] = some tile)
    (hp : s.asm.plates[tile.slot] = some plate) (hx : tile.final = false)
    (hlive : plate.state = .assembling ∨ plate.state = .complete) : plate.state = .assembling := by
  refine hlive.resolve_right fun hc => ?_
  obtain ⟨placed, counted, -⟩ := (assemblyLaw_iff s).1 law
  obtain ⟨hsize, -⟩ := placed.sized _ plate hp
  have hfinal := all_final_of_counts (counted _ plate hp) hsize ((counted _ plate hp).complete hc) x
    ((mem_tiles_iff law hp x).2 ⟨tile, ht, rfl⟩)
  simp [State.tileIs, ht, hx] at hfinal

/-- R32, R33, R36: a tile ends, and its band is open once all tiles of its row are final. -/
theorem deliverFence_ends_holds {x : TileNo} {tile : Tile} {o : ClosingOutcome} {heat : Option Nat} (law : AssemblyLaw s)
    (holds : HoldLaw s) (ht : s.asm.tiles[x] = some tile) (hs : tile.state = .closing o heat) (ho : o ≠ .discarded) :
    HoldLaw (s.deliverFence x) := by
  obtain ⟨plate, hp, -⟩ := law.owned x tile ht
  let final := tile.finalFrom o
  let v := s.tileEnded x tile final
  let banded := v.bandDone (plate.countFinal final) tile.row
  obtain ⟨hasm, -, hhold, -⟩ := endTile_eq (t := x) (final := final) (tile.finalRecord plate.tag (heat.getD 0) final) hp
  rw [← deliverFence_ends ht hs ho hp] at hasm hhold
  let changed := plate.ended final tile.row banded
  have h : TileAndPlate s (s.deliverFence x) x tile { tile with state := final, reservation := 0 } plate changed :=
    ⟨ht, hp, congrArg Assembly.plates hasm, congrArg Assembly.tiles hasm, rfl, rfl⟩
  have hpl := holds.at hp
  have hband : ∀ b, changed.bandHold b = if banded = true ∧ b = tile.row then none else plate.bandHold b := fun b =>
    bandHold_ended final tile.row b banded
  have hpool : ∀ g : HoldNo, (s.deliverFence x).hold.pool[g] =
      if banded = true ∧ plate.bandHold tile.row = some g then none else s.hold.pool[g] := fun g => by
    rw [hhold]
    exact finishBand_pool (by rw [tileEnded_plate hp]; simp) g
  obtain ⟨hlive, hdismissing⟩ := ended_state (plate := plate) final tile.row banded
  have hunfinished : tile.final = false := by simp [Tile.final, hs]
  refine holds.around ((h.outside law).around law fun g y hy => ?_) (fun pl hpl' => ?_) fun g y hy hslot => ?_
  · rw [hpool]
    split
    · next hg =>
      obtain ⟨-, hg⟩ := hg
      rw [hpl.held _ g hg]
      refine ⟨fun hno => (nomatch hno), fun hyes => absurd ?_ hy⟩
      cases hyes
      rfl
    · exact Iff.rfl
  · rw [h.plateAt, if_pos rfl] at hpl'
    cases hpl'
    refine OneBand.plateHolds (row := tile.row) ⟨?_, fun b hb => ?_, fun b g hb hg => ?_,
      fun b hb => h.final law hb, hlive⟩ hpl (fun g hg => ?_) (fun hstate hrow => ?_) fun d f hd b => ?_
    · simp only [Plate.layout, changed, Plate.ended]
      split <;> simp [Plate.countFinal]
    · rw [hband, if_neg fun hno => hb hno.2]
    · rw [hpool, if_neg fun hno => hb (hpl.single b tile.row g hg hno.2)]
    · rw [hband] at hg
      split at hg
      · cases hg
      · next hno =>
        rw [hpool, if_neg fun hyes => hno ⟨hyes.1, rfl⟩]
        exact ⟨hpl.held _ g hg, fun b hb hbg => hb (hpl.single b tile.row g hbg hg)⟩
    · have hassembling := assembling_of_unfinished law ht hp hunfinished (hlive hstate)
      have hdone : banded = true ↔ ∀ y ∈ plate.rowTiles tile.row, (s.deliverFence x).tileIs Tile.final y = true := by
        have htiles : ∀ y : TileNo, (s.deliverFence x).tileIs Tile.final y = v.tileIs Tile.final y := fun y => by
          simp only [State.tileIs, hasm, v, tileEnded_plate hp]
        simp only [htiles, ← List.all_eq_true]
        exact (bandDone_iff _ _ _).trans (and_iff_right hassembling)
      have hmine : (plate.bandHold tile.row).isSome = true :=
        (hpl.unfinished (.inl hassembling) _ hrow).2
          ⟨x, (mem_rowTiles_iff law hp _ x).2 ⟨tile, ht, rfl, rfl⟩, by simp [State.tileIs, ht, hunfinished]⟩
      rw [hband]
      by_cases hb : banded = true
      · rw [if_pos ⟨hb, rfl⟩]
        refine ⟨fun hno => (nomatch hno), fun ⟨y, hy, hfalse⟩ => ?_⟩
        rw [hdone.1 hb y hy] at hfalse
        cases hfalse
      · rw [if_neg fun hyes => hb hyes.1]
        refine ⟨fun _ => ?_, fun _ => hmine⟩
        simpa using hdone.not.1 hb
    · rw [hband]
      split
      · rfl
      · exact hpl.dismissing d f (hdismissing d f hd) b
  · rw [hpool] at hy
    split at hy
    · cases hy
    · next hno =>
      obtain ⟨b, hb⟩ := holds.namedBy hp hy hslot
      refine ⟨changed, b, (h.plateAt _).trans (if_pos rfl), ?_⟩
      rw [hband, if_neg ?_, hb]
      rintro ⟨hbanded, rfl⟩
      exact hno ⟨hbanded, hb⟩

/-- A change of a tile that leaves it as final as it was, plates and holds standing (R82). -/
theorem HoldLaw.congr {t : State} (law : HoldLaw s) (hplates : t.asm.plates = s.asm.plates)
    (hpool : t.hold.pool = s.hold.pool) (hfinal : ∀ x, t.tileIs Tile.final x = s.tileIs Tile.final x) : HoldLaw t := by
  obtain ⟨plates, named⟩ := (holdLaw_iff s).1 law
  refine (holdLaw_iff t).2 ⟨fun q pl hq => ?_, fun g x hx => ?_⟩
  · rw [hplates] at hq
    exact (plates q pl hq).congr (fun b g _ => by rw [hpool]) fun x _ => hfinal x
  · rw [hpool] at hx
    rw [hplates]
    exact named g x hx

theorem setTile_final {x : TileNo} {tile next : Tile} (ht : s.asm.tiles[x] = some tile)
    (hnext : next.final = tile.final) (y : TileNo) :
    (s.setTile x (some next)).tileIs Tile.final y = s.tileIs Tile.final y := by
  simp only [State.tileIs, setTile_tiles]
  split
  · next hy => rw [hy, ht, Option.any_some, Option.any_some, hnext]
  · rfl

/-- R34, R47: a DISCARDED tile returns to PENDING, and a DISMISSING plate, which has no hold, may be FREE. -/
theorem deliverFence_returns_holds {x : TileNo} {tile : Tile} {heat : Option Nat} (law : AssemblyLaw s)
    (holds : HoldLaw s) (ht : s.asm.tiles[x] = some tile) (hs : tile.state = .closing .discarded heat) :
    HoldLaw (s.deliverFence x) := by
  let u := s.setTile x (some tile.returned)
  have hu : AssemblyLaw u := returned_law law ht hs
  have hfinal : tile.returned.final = tile.final := by simp [Tile.final, Tile.returned, hs]
  have hholds : HoldLaw u := holds.congr rfl rfl (setTile_final ht hfinal)
  rw [deliverFence_returns ht hs]
  obtain ⟨plate, hp, -⟩ := hu.owned x tile.returned (setTile_self s x _)
  have hp' : u.asm.plates[tile.slot] = some plate := hp
  by_cases hfree : (∃ d f, plate.state = .dismissing d f) ∧ u.noneClosing plate = true
  · obtain ⟨⟨d, f, hd⟩, hnone⟩ := hfree
    obtain ⟨tiles, hout, htiles⟩ := freePlate_eq d f hp'
    have hplates : ∀ q : SlotNo, (u.asm.plates.set tile.slot none)[q] = if q = tile.slot then none else u.asm.plates[q] :=
      fun q => getElem_set_fin u.asm.plates tile.slot q none
    rw [freeIfDone_dismissing hp' hd, if_pos hnone, hout]
    exact Outside.freed_holds
      ⟨hp', fun q hq => (hplates q).trans (if_neg hq), fun y hy => (htiles y).trans (if_neg hy)⟩ hu hholds
      ((hholds.at hp').dismissing d f hd) ((hplates _).trans (if_pos rfl)) rfl
  · rw [freeIfDone_keeps hp' (by simpa [or_iff_not_imp_left] using hfree)]
    exact hholds

theorem deliverFence_holds (x : TileNo) (law : AssemblyLaw s) (holds : HoldLaw s) : HoldLaw (s.deliverFence x) := by
  cases ht : s.asm.tiles[x] with
  | none => simpa only [State.deliverFence, ht] using holds
  | some tile =>
    cases hs : tile.state with
    | closing o heat =>
      by_cases ho : o = .discarded
      · subst ho
        exact deliverFence_returns_holds law holds ht hs
      · exact deliverFence_ends_holds law holds ht hs ho
    | _ => simpa only [State.deliverFence, ht, hs] using holds

/-! ### Acceptance (R28, R77) -/

theorem freeHold_none {h : HoldNo} (hmem : h ∈ s.freeHolds) : s.hold.pool[h] = none := by
  simpa [State.freeHolds] using hmem

/-- A tile row of a new plate has a tile. -/
theorem newPlate_row {ws : List Word} {b : Nat} (hroom : (geometryOf ws).tiles ≤ s.freeTiles.length)
    (hcols : 0 < (geometryOf ws).cols) (hb : b < (geometryOf ws).rows) : ∃ x, x ∈ (s.newPlate ws).rowTiles b := by
  have hlt : b * (geometryOf ws).cols < (s.newPlate ws).tiles.length := by
    rw [newPlate_length hroom]
    exact Nat.mul_lt_mul_of_pos_right hb hcols
  refine ⟨(s.newPlate ws).tiles[b * (geometryOf ws).cols], List.mem_iff_getElem?.2 ⟨0, ?_⟩⟩
  have hgeo : (s.newPlate ws).geo = geometryOf ws := rfl
  rw [Plate.rowTiles, hgeo, List.getElem?_take, if_pos hcols, List.getElem?_drop, Nat.add_zero,
    List.getElem?_eq_getElem hlt]

theorem acceptPlate_holds {ws : List Word} (holds : HoldLaw s) (law : AssemblyLaw s) (hp : s.asm.plates[p] = none)
    (hcols : 0 < (geometryOf ws).cols) (htiles : (geometryOf ws).tiles ≤ s.freeTiles.length)
    (hrows : (geometryOf ws).rows ≤ s.freeHolds.length) : HoldLaw (s.acceptPlate p ws) := by
  have h := acceptPlate_accepted ws hp
  obtain ⟨tiles, pool, heq, -, -, hheld, hrest⟩ := acceptPlate_eq s p ws
  have hpool : (s.acceptPlate p ws).hold.pool = pool := by rw [heq]
  have htaken : ∀ b g, (s.newPlate ws).bandHold b = some g → s.hold.pool[g] = none := fun b g hb => by
    rw [bandHold_newPlate] at hb
    exact freeHold_none (List.mem_of_mem_take (List.mem_of_getElem? hb))
  have hother : ∀ (g : HoldNo) (y : Hold), y.slot ≠ p →
      ((s.acceptPlate p ws).hold.pool[g] = some y ↔ s.hold.pool[g] = some y) := fun g y hy => by
    rw [hpool]
    by_cases hg : ∃ b, (s.newPlate ws).bandHold b = some g
    · obtain ⟨b, hb⟩ := hg
      rw [hheld b g hb, htaken b g hb]
      refine ⟨fun hyes => absurd ?_ hy, fun hno => (nomatch hno)⟩
      cases hyes
      rfl
    · rw [hrest g fun b hb => hg ⟨b, hb⟩]
  have haround : Around s (s.acceptPlate p ws) p := by
    refine ⟨fun q hq => (h.plates q).trans (if_neg hq), fun q plate _ hq x hx => ?_, hother⟩
    obtain ⟨tile, ht, -⟩ := (mem_tiles_iff law hq x).1 hx
    simp only [State.tileIs, h.kept ht, ht]
  refine holds.around haround (fun pl hpl => ?_) fun g y hy hslot => ?_
  · rw [h.plates, if_pos rfl] at hpl
    cases hpl
    have hnodup : ((s.freeHolds).take (geometryOf ws).rows).Nodup := (freeHolds_nodup s).sublist (List.take_sublist _ _)
    have hlength : ((s.freeHolds).take (geometryOf ws).rows).length = (geometryOf ws).rows :=
      List.length_take.trans (min_eq_left hrows)
    refine ⟨(List.length_map _).trans hlength, fun b g hb => ?_, fun b b' g hb hb' => ?_, fun _ b hb => ?_,
      fun d f hd => nomatch hd⟩
    · rw [hpool]
      exact hheld b g hb
    · rw [bandHold_newPlate] at hb hb'
      obtain ⟨hlt, -⟩ := List.getElem?_eq_some_iff.1 hb
      exact (List.getElem?_inj hlt hnodup).1 (hb.trans hb'.symm)
    · have hlt : b < ((s.freeHolds).take (geometryOf ws).rows).length := hlength.symm ▸ hb
      obtain ⟨x, hx⟩ := newPlate_row (s := s) htiles hcols hb
      obtain ⟨i, hi⟩ := List.mem_iff_getElem?.1 (mem_tiles_of_rowTiles hx)
      have hfinal : (s.acceptPlate p ws).tileIs Tile.final x = false := by
        rw [State.tileIs, h.new i x hi]
        rfl
      rw [bandHold_newPlate, List.getElem?_eq_getElem hlt]
      exact ⟨fun _ => ⟨x, hx, hfinal⟩, fun _ => rfl⟩
  · rw [hpool] at hy
    by_cases hg : ∃ b, (s.newPlate ws).bandHold b = some g
    · obtain ⟨b, hb⟩ := hg
      exact ⟨_, b, (h.plates p).trans (if_pos rfl), hb⟩
    · rw [hrest g fun b hb => hg ⟨b, hb⟩] at hy
      exact absurd hslot (holds.unnamed hp hy)

/-! ### RETAKE (R42, R43, R78) -/

/-- A tile that is no longer final has its band closed by a hold, its own or one that was FREE. -/
theorem TileAndPlate.retake_holds {t : State} {x : TileNo} {tile next : Tile} {changed : Plate} {h : HoldNo}
    (change : TileAndPlate s t x tile next plate changed) (law : AssemblyLaw s) (holds : HoldLaw s)
    (hnext : next.final = false) (hlive : plate.state = .assembling ∨ plate.state = .complete)
    (hstate : changed.state = .assembling) (hlayout : changed.layout = plate.layout)
    (hbands : ∀ b, changed.bandHold b = if b = tile.row then some h else plate.bandHold b)
    (hpool : ∀ g : HoldNo, t.hold.pool[g] = if g = h then some (holdFor tile.slot plate tile.row) else s.hold.pool[g])
    (hmine : plate.bandHold tile.row = some h ∨ plate.bandHold tile.row = none ∧ s.hold.pool[h] = none) : HoldLaw t := by
  have hpl := holds.at change.owner
  have hapart : ∀ b, b ≠ tile.row → plate.bandHold b ≠ some h := fun b hb hbh => by
    rcases hmine with hrow | ⟨-, hfree⟩
    · exact hb (hpl.single b tile.row h hbh hrow)
    · rw [hpl.held b h hbh] at hfree
      cases hfree
  refine holds.around ((change.outside law).around law fun g y hy => ?_) (fun pl hpl' => ?_) fun g y hy hslot => ?_
  · rw [hpool]
    split
    · next hg =>
      subst hg
      refine ⟨fun hyes => absurd ?_ hy, fun hyes => absurd ?_ hy⟩
      · cases hyes
        rfl
      · rcases hmine with hrow | ⟨-, hfree⟩
        · rw [hpl.held _ g hrow] at hyes
          cases hyes
          rfl
        · rw [hfree] at hyes
          cases hyes
    · exact Iff.rfl
  · rw [change.plateAt, if_pos rfl] at hpl'
    cases hpl'
    have hrow : changed.bandHold tile.row = some h := (hbands _).trans (if_pos rfl)
    refine OneBand.plateHolds (row := tile.row) ⟨hlayout, fun b hb => (hbands b).trans (if_neg hb), fun b g hb hg => ?_,
      fun b hb => change.final law hb, fun _ => hlive⟩ hpl (fun g hg => ?_) (fun _ _ => ?_) fun d f hd => ?_
    · rw [hpool, if_neg]
      rintro rfl
      exact hapart b hb hg
    · rw [hrow] at hg
      cases hg
      exact ⟨(hpool h).trans (if_pos rfl), hapart⟩
    · rw [hrow]
      refine ⟨fun _ => ⟨x, (mem_rowTiles_iff law change.owner _ x).2 ⟨tile, change.before, rfl, rfl⟩, ?_⟩, fun _ => rfl⟩
      rw [State.tileIs, change.tileAt, if_pos rfl, Option.any_some, hnext]
    · rw [hstate] at hd
      cases hd
  · rw [hpool] at hy
    split at hy
    · next hg => exact ⟨changed, tile.row, (change.plateAt _).trans (if_pos rfl), hg ▸ (hbands _).trans (if_pos rfl)⟩
    · next hg =>
      obtain ⟨b, hb⟩ := holds.namedBy change.owner hy hslot
      refine ⟨changed, b, (change.plateAt _).trans (if_pos rfl), (hbands b).trans ((if_neg ?_).trans hb)⟩
      rintro rfl
      rcases hmine with hrow | ⟨hrow, -⟩
      · rw [hrow] at hb
        cases hb
        exact hg rfl
      · rw [hrow] at hb
        cases hb

/-- A tile's row is one of its plate's (R1). -/
theorem row_lt_rows {x : TileNo} {tile : Tile} (law : AssemblyLaw s) (ht : s.asm.tiles[x] = some tile)
    (hp : s.asm.plates[tile.slot] = some plate) : tile.row < plate.geo.rows := by
  obtain ⟨pl, hpl, hi⟩ := law.owned x tile ht
  rw [hp] at hpl
  cases hpl
  obtain ⟨hsize, -⟩ := law.sized _ plate hp
  obtain ⟨tile', ht', -, -, hrow, -⟩ := law.listed _ plate hp _ x hi
  rw [ht] at ht'
  cases ht'
  obtain ⟨hlt, -⟩ := List.getElem?_eq_some_iff.1 hi
  rw [hsize, Geometry.tiles, Nat.mul_comm] at hlt
  rw [hrow]
  exact Nat.div_lt_of_lt_mul hlt

/-- A band that is closed is a band of the list of holds. -/
theorem bandHold_set {row : Nat} {h : HoldNo} (hrow : row < plate.bandHolds.length) (b : Nat) :
    Plate.bandHold { plate with bandHolds := plate.bandHolds.set row (some h) } b =
      if b = row then some h else plate.bandHold b := by
  simp only [Plate.bandHold, List.getElem?_set]
  by_cases hb : b = row
  · subst hb
    rw [if_pos rfl, if_pos hrow, if_pos rfl]
    rfl
  · rw [if_neg (Ne.symm hb), if_neg hb]

theorem acceptRetake_holds {x : TileNo} {tile : Tile} (law : AssemblyLaw s) (holds : HoldLaw s)
    (hp : s.asm.plates[p] = some plate) (hlive : plate.state = .assembling ∨ plate.state = .complete)
    (hmem : x ∈ plate.tiles) (ht : s.asm.tiles[x] = some tile) (hrow : s.holdForRow plate tile.row = true) :
    HoldLaw (s.acceptRetake p x tile) := by
  obtain ⟨tile', ht', rfl⟩ := (mem_tiles_iff law hp x).1 hmem
  rw [ht] at ht'
  cases ht'
  let pl := plate.retaken (tile.state == .done)
  have hself : (s.tileRetaken tile.slot plate x tile).asm.plates[tile.slot] = some pl :=
    (getElem_set_fin s.asm.plates tile.slot tile.slot _).trans (if_pos rfl)
  have hband : ∀ b, pl.bandHold b = plate.bandHold b := fun _ => rfl
  rw [acceptRetake_eq x tile hp]
  cases hb : plate.bandHold tile.row with
  | some h =>
    rw [closeBand_held hself ((hband _).trans hb)]
    have change : TileAndPlate s (s.tileRetaken tile.slot plate x tile) x tile tile.retaken plate pl :=
      ⟨ht, hp, rfl, rfl, rfl, rfl⟩
    refine change.retake_holds law holds rfl hlive rfl rfl (h := h) (fun b => ?_) (fun g => ?_) (.inl hb)
    · rw [hband]
      split
      · next hrow => rw [hrow, hb]
      · rfl
    · split
      · next hg => exact hg ▸ (holds.at hp).held _ h hb
      · rfl
  | none =>
    have hfree : s.freeHolds ≠ [] := by simpa [State.holdForRow, hb] using hrow
    obtain ⟨h, more, hmore⟩ := List.exists_cons_of_ne_nil hfree
    have hmore' : (s.tileRetaken tile.slot plate x tile).freeHolds = h :: more := hmore
    let closed : Plate := { pl with bandHolds := pl.bandHolds.set tile.row (some h) }
    have heq := closeBand_open hself ((hband _).trans hb) hmore'
    have change : TileAndPlate s ((s.tileRetaken tile.slot plate x tile).closeBand tile.slot tile.row) x tile
        tile.retaken plate closed :=
      ⟨ht, hp, (congrArg (fun t => t.asm.plates) heq).trans (Vector.set_set ..), congrArg (fun t => t.asm.tiles) heq,
        rfl, by simp [Plate.shape, closed, pl, Plate.retaken]⟩
    have hlength : tile.row < pl.bandHolds.length := (row_lt_rows law ht hp).trans_eq (holds.at hp).lists.symm
    refine change.retake_holds law holds rfl hlive rfl ?_ (h := h) (fun b => bandHold_set hlength b) (fun g => ?_)
      (.inr ⟨hb, freeHold_none (by simp [hmore])⟩)
    · simp [Plate.layout, closed, pl, Plate.retaken]
    · rw [heq]
      exact getElem_set_fin s.hold.pool h g _

/-! ### DISMISS (R45, R46, R81) -/

theorem bandHold_of_length {b : Nat} (h : plate.bandHolds.length ≤ b) : plate.bandHold b = none := by
  simp [Plate.bandHold, List.getElem?_eq_none h]

/-- A COMPLETE plate has no hold left (R37). -/
theorem complete_open (law : AssemblyLaw s) (holds : HoldLaw s) (hp : s.asm.plates[p] = some plate)
    (hc : plate.state = .complete) (b : Nat) : plate.bandHold b = none := by
  have hpl := holds.at hp
  obtain ⟨placed, counted, -⟩ := (assemblyLaw_iff s).1 law
  obtain ⟨hsize, -⟩ := placed.sized p plate hp
  have hfinal := all_final_of_counts (counted p plate hp) hsize ((counted p plate hp).complete hc)
  by_cases hb : b < plate.geo.rows
  · refine Option.not_isSome_iff_eq_none.1 fun hsome => ?_
    obtain ⟨x, hx, hfalse⟩ := (hpl.unfinished (.inr hc) b hb).1 hsome
    rw [hfinal x (mem_tiles_of_rowTiles hx)] at hfalse
    cases hfalse
  · exact bandHold_of_length (by rw [hpl.lists]; omega)

theorem dismiss_complete_holds {k : Take} (law : AssemblyLaw s) (holds : HoldLaw s)
    (h : s.dismissReady = some (k, p, plate)) (hc : plate.state = .complete) : HoldLaw (dismissReservation s) := by
  obtain ⟨-, -, -, hp, -⟩ := dismissReady_some h
  obtain ⟨hout, hfree, -⟩ := dismissed_complete h hc
  refine hout.freed_holds law holds (complete_open law holds hp hc) hfree ?_
  rw [dismissReservation_complete h hc]
  simp [State.dismissStarted]

/-- What R46 leaves of an ASSEMBLING plate: DISMISSING or FREE, its holds FREE. -/
theorem dismissed_holds {k : Take} (law : AssemblyLaw s) (h : s.dismissReady = some (k, p, plate))
    (ha : plate.state = .assembling) :
    Outside s (dismissReservation s) p plate
      ∧ (∀ pl, (dismissReservation s).asm.plates[p] = some pl →
        pl = plate.dismissing { plate with dismissReserved := true })
      ∧ ∀ g : HoldNo, (dismissReservation s).hold.pool[g] =
        if some g ∈ plate.bandHolds then none else s.hold.pool[g] := by
  obtain ⟨-, -, -, hp, -⟩ := dismissReady_some h
  let v := (s.dismissStarted p).discardCurrent p
  have hone : StepOne s v p plate := stepOne law hp ha
  have hplates := discarded_stepOne_plates hone
  have htiles := discarded_stepOne_tiles hone (tiles_nodup law hp)
  obtain ⟨hpool, -⟩ := discarded_hold p plate v
  have hmarked := (hplates p).trans (if_pos rfl)
  rw [dismissReservation_assembling h ha, freeIfDone_dismissing hmarked rfl]
  split
  · obtain ⟨tiles, hfree, hgone⟩ := freePlate_eq plate.tilesDone plate.tilesFailed hmarked
    have hfreed : ∀ q : SlotNo, ((v.discarded p plate).asm.plates.set p none)[q] =
        if q = p then none else (v.discarded p plate).asm.plates[q] := fun q => getElem_set_fin _ p q none
    rw [hfree]
    refine ⟨⟨hp, fun q hq => ?_, fun x hx => ?_⟩, fun pl hpl => ?_, fun g => ?_⟩
    · exact (hfreed q).trans ((if_neg hq).trans ((hplates q).trans (if_neg hq)))
    · exact (hgone x).trans ((if_neg hx).trans ((htiles x).trans (if_neg hx)))
    · cases ((hfreed p).trans (if_pos rfl)).symm.trans hpl
    · rw [← hone.hold]
      exact hpool g
  · refine ⟨⟨hp, fun q hq => (hplates q).trans (if_neg hq), fun x hx => (htiles x).trans (if_neg hx)⟩, fun pl hpl => ?_,
      fun g => ?_⟩
    · exact (Option.some.inj (hmarked.symm.trans hpl)).symm
    · rw [← hone.hold]
      exact hpool g

theorem mem_bandHolds_iff (g : HoldNo) : some g ∈ plate.bandHolds ↔ ∃ b, plate.bandHold b = some g := by
  simp only [Plate.bandHold, Option.join_eq_some_iff, List.mem_iff_getElem?]

/-- A DISMISSING plate has a list of holds, all none (R46). -/
theorem dismissing_bands (taken pl : Plate) :
    (taken.dismissing pl).bandHolds.length = pl.bandHolds.length ∧ ∀ b, (taken.dismissing pl).bandHold b = none := by
  refine ⟨List.length_map _, fun b => ?_⟩
  simp only [Plate.bandHold, Plate.dismissing, List.getElem?_map]
  cases pl.bandHolds[b]? <;> rfl

theorem dismiss_assembling_holds {k : Take} (law : AssemblyLaw s) (holds : HoldLaw s)
    (h : s.dismissReady = some (k, p, plate)) (ha : plate.state = .assembling) : HoldLaw (dismissReservation s) := by
  obtain ⟨-, -, -, hp, -⟩ := dismissReady_some h
  obtain ⟨hout, hleft, hpool⟩ := dismissed_holds law h ha
  have hpl := holds.at hp
  refine holds.around (hout.around law fun g y hy => ?_) (fun pl hpl' => ?_) fun g y hy hslot => ?_
  · rw [hpool]
    split
    · next hg =>
      obtain ⟨b, hb⟩ := (mem_bandHolds_iff g).1 hg
      rw [hpl.held b g hb]
      refine ⟨fun hno => (nomatch hno), fun hyes => absurd ?_ hy⟩
      cases hyes
      rfl
    · exact Iff.rfl
  · rw [hleft pl hpl']
    obtain ⟨hlength, hnone⟩ := dismissing_bands plate { plate with dismissReserved := true }
    refine ⟨hlength.trans hpl.lists, fun b g hb => ?_, fun b _ g hb => ?_, fun hlive => ?_, fun _ _ _ => hnone⟩
    · rw [hnone] at hb
      cases hb
    · rw [hnone] at hb
      cases hb
    · rcases hlive with hno | hno <;> cases hno
  · rw [hpool] at hy
    split at hy
    · cases hy
    · next hg => exact absurd ((mem_bandHolds_iff g).2 (holds.namedBy hp hy hslot)) hg

theorem dismissReservation_holds (law : AssemblyLaw s) (holds : HoldLaw s) : HoldLaw (dismissReservation s) := by
  cases h : s.dismissReady with
  | none => simpa only [dismissReservation, h] using holds
  | some x =>
    rcases dismissReady_live law h with ha | hc
    · exact dismiss_assembling_holds law holds h ha
    · exact dismiss_complete_holds law holds h hc

theorem reset_holds (lines : StageLines) (straps : BitVec 12) (s : State) : HoldLaw (powerOnReset lines straps s) := by
  refine (holdLaw_iff _).2 ⟨fun q pl hq => ?_, fun g x hx => ?_⟩
  · rw [reset_plates] at hq
    cases hq
  · simp [powerOnReset, State.resetWith] at hx

end

end Sys2Proof.Machine
end

section
/-! PROOFS. The custody of reads and bands: all that the laws of reads (O55) and holds (O57) look at, and the operations that
leave it as it is. -/

namespace Sys2Proof.Machine

/-- All that the laws of reads and holds look at; of the tiles, which of them are final. -/
def State.custody (s : State) : Vector Bool 4 × Reads × HoldUnit × Vector (Option Plate) 4 × (TileNo → Bool) :=
  (s.port.outstanding, s.reads, s.hold, s.asm.plates, s.tileIs Tile.final)

section
variable {s t : State}

theorem custody_iff : t.custody = s.custody ↔ t.port.outstanding = s.port.outstanding ∧ t.reads = s.reads
    ∧ t.hold = s.hold ∧ t.asm.plates = s.asm.plates ∧ t.tileIs Tile.final = s.tileIs Tile.final := by
  simp only [State.custody, Prod.mk.injEq]

/-- An operation that leaves the port's flags, the reads, the holds and the tables leaves the custody; for most, the frame
lemmas say so. -/
theorem custody_of_asm (hflags : t.port.outstanding = s.port.outstanding := by simp) (hreads : t.reads = s.reads := by simp)
    (hhold : t.hold = s.hold := by simp) (hasm : t.asm = s.asm := by simp) : t.custody = s.custody := by
  refine custody_iff.2 ⟨hflags, hreads, hhold, by rw [hasm], funext fun x => ?_⟩
  simp only [State.tileIs, hasm]

/-- A tile may change as long as it stays final or not. -/
theorem setTile_custody {x : TileNo} {tile next : Tile} (ht : s.asm.tiles[x] = some tile)
    (hnext : next.final = tile.final) : (s.setTile x (some next)).custody = s.custody :=
  custody_iff.2 ⟨rfl, rfl, rfl, rfl, funext (setTile_final ht hnext)⟩

theorem modTile_custody (x : TileNo) {f : Tile → Tile} (hf : ∀ tile, (f tile).final = tile.final) :
    (s.modTile x f).custody = s.custody := by
  refine custody_iff.2 ⟨rfl, rfl, rfl, rfl, funext fun y => ?_⟩
  simp only [State.tileIs, State.modTile, setTile_tiles]
  split
  · next hy => simp only [hy, Option.any_map, hf]
  · rfl

end

/-! ### Operations that leave the tables -/

section
variable (s : State)

@[simp] theorem offer_custody (r : Record) : (s.offer r).custody = s.custody := custody_of_asm

@[simp] theorem offerStray_custody : s.offerStray.custody = s.custody := custody_of_asm

@[simp] theorem search_custody : s.search.custody = s.custody := custody_of_asm

@[simp] theorem endTake_custody (k : Take) : (s.endTake k).custody = s.custody := custody_of_asm

@[simp] theorem result_custody (k : Take) (code : Code) (d : Nat) : (s.result k code d).custody = s.custody := custody_of_asm

@[simp] theorem presentDeferred_custody : s.presentDeferred.custody = s.custody := custody_of_asm

@[simp] theorem placeAll_custody (ws : List QWrite) : (s.placeAll ws).custody = s.custody := custody_of_asm

@[simp] theorem passTurn_custody : s.passTurnToReport.custody = s.custody := by
  refine custody_of_asm ?_
  unfold State.passTurnToReport
  split <;> rfl

@[simp] theorem postFlag_custody (k : PlanSlot) (v : Word) : (s.postFlag k v).custody = s.custody := custody_of_asm

@[simp] theorem consumeValue_custody (v : Word) : (s.consumeValue v).custody = s.custody := custody_of_asm

@[simp] theorem dropCarrier_custody (id : Nat) : (s.dropCarrier id).custody = s.custody := custody_of_asm

@[simp] theorem headerDrained_custody (e : Entry) : (s.headerDrained e).custody = s.custody := custody_of_asm

@[simp] theorem refresh_custody : (refresh s).custody = s.custody := custody_of_asm

@[simp] theorem conclude_custody : (conclude s).custody = s.custody := custody_of_asm

@[simp] theorem msTick_custody : s.msTick.custody = s.custody := custody_of_asm

@[simp] theorem idleTimerExpiry_custody : (idleTimerExpiry s).custody = s.custody := custody_of_asm

@[simp] theorem enterReady_custody (w : QWrite) : (s.enterReady w).custody = s.custody :=
  custody_of_asm (by rw [enterReady_port]; split <;> rfl)

@[simp] theorem lampTick_custody : s.lampTick.custody = s.custody := by
  unfold State.lampTick
  split <;> rfl

@[simp] theorem countClk_custody (k : Ticks) : (s.countClk k).custody = s.custody := by
  unfold State.countClk
  split <;> rfl

theorem triggerPulseEnd_custody : (triggerPulseEnd s).custody = s.custody := by
  unfold triggerPulseEnd
  split <;> rfl

theorem dwellExpiry_custody : (dwellExpiry s).custody = s.custody := by
  unfold dwellExpiry
  split <;> rfl

theorem fallingHomeEdge_custody (ax : Axis) : (fallingHomeEdge ax s).custody = s.custody := by
  unfold fallingHomeEdge
  split <;> rfl

theorem cutFall_custody : (cutFall s).custody = s.custody := by
  unfold cutFall
  split
  · exact offer_custody _ _
  · rfl

theorem fetchResponds_custody (st : DownStatus) (d : List Word) : (s.fetchResponds st d).custody = s.custody := by
  unfold State.fetchResponds
  split
  · cases st with
    | fault => exact result_custody _ _ _ _
    | ok =>
      simp only [State.postRead, State.lineRead]
      split
      · split
        · exact result_custody _ _ _ _
        · rfl
      · split <;> rfl
  · rfl

theorem dismissRecord_custody : (dismissRecord s).custody = s.custody := by
  unfold dismissRecord
  split
  · rfl
  split
  · exact result_custody _ _ _ _
  split
  · exact result_custody _ _ _ _
  split
  · exact result_custody _ _ _ _
  · rfl

theorem recordLineEntry_custody : (recordLineEntry s).custody = s.custody := by
  unfold recordLineEntry
  split
  · next st r _ _ _ _ =>
    split
    · exact enterReady_custody s (recordWrite st s.report.produce r s.report.dropped)
    · rfl
  · rfl

theorem headerLineEntry_custody : (headerLineEntry s).custody = s.custody := by
  unfold headerLineEntry
  split
  · split
    · exact enterReady_custody s _
    · rfl
  · split
    · exact enterReady_custody s _
    · rfl
  · rfl

theorem resultWordEntry_custody : (resultWordEntry s).custody = s.custody := by
  unfold resultWordEntry
  split
  · split
    · split
      · exact (endTake_custody _ _).trans (enterReady_custody s _)
      · rfl
    · rfl
  · rfl

end

/-! ### The exposure path -/

section
variable {s : State} {x : TileNo} {tile : Tile}

theorem final_of_active (h : tile.active = true) : tile.final = false := by
  unfold Tile.active at h
  unfold Tile.final
  split at h <;> simp_all

/-- The current tile is not final, and may change as long as it does not become so. -/
theorem setCurrent_custody {next : Tile} {plate : Plate} (hc : s.currentTile = some (x, tile, plate))
    (hnext : next.final = false) : (s.setTile x (some next)).custody = s.custody := by
  obtain ⟨-, ht, -, ha⟩ := currentTile_some.1 hc
  exact setTile_custody ht (hnext.trans (final_of_active ha).symm)

theorem startExposure_custody (ht : s.asm.tiles[x] = some tile) (hf : tile.final = false) :
    (s.startExposure x tile).custody = s.custody :=
  setTile_custody (next := { tile with state := .exposing }) ht hf.symm

theorem settleExpires_custody (ht : s.asm.tiles[x] = some tile) (hf : tile.final = false) :
    (s.settleExpires x tile).custody = s.custody := by
  unfold State.settleExpires
  split
  · rfl
  · exact startExposure_custody ht hf

theorem enterSettling_custody (ht : s.asm.tiles[x] = some tile) (hf : tile.final = false) :
    (s.enterSettling x tile).custody = s.custody := by
  have hset : (s.setTile x (some { tile with state := .settling })).custody = s.custody := setTile_custody ht hf.symm
  unfold State.enterSettling
  simp only []
  split
  · exact (settleExpires_custody (setTile_self s x _) rfl).trans hset
  · exact hset

theorem latch_custody (s : State) : s.latch.custody = s.custody := by
  unfold State.latch
  split
  · rfl
  · next hc =>
    obtain ⟨-, ht, -, ha⟩ := currentTile_some.1 hc
    split
    · exact enterSettling_custody ht (final_of_active ha)
    · rfl

theorem turnOn_custody (s : State) : s.turnOn.custody = s.custody := latch_custody _

theorem periodEnd_custody (s : State) : (periodEnd s).custody = s.custody := by
  unfold periodEnd
  split
  · exact latch_custody _
  · rfl

theorem settleExpiry_custody (s : State) : (settleExpiry s).custody = s.custody := by
  unfold settleExpiry
  split
  · next hc =>
    obtain ⟨-, ht, -, ha⟩ := currentTile_some.1 hc
    split
    · exact settleExpires_custody ht (final_of_active ha)
    · rfl
  · rfl

theorem deferredTrigger_custody (s : State) : (deferredTrigger s).custody = s.custody := by
  unfold deferredTrigger
  split
  · rfl
  · next hc =>
    obtain ⟨-, ht, -, ha⟩ := currentTile_some.1 hc
    split
    · exact startExposure_custody ht (final_of_active ha)
    · rfl

theorem arm_final (tile : Tile) (e : Nat) (zone : Zone) : (tile.arm e zone).final = false :=
  final_of_active (arm_active tile e zone)

theorem armTile_custody (plate : Plate) (ht : s.asm.tiles[x] = some tile) (hs : tile.state = .pending) :
    (s.armTile x plate tile).custody = s.custody := by
  have hset : (s.armedFor x plate tile).custody = s.custody :=
    setTile_custody (s := s.reserve 2) (next := { tile.arm 0 s.lamp.zone with reservation := 2 }) ht
      ((arm_final tile 0 s.lamp.zone).trans (by simp [Tile.final, hs]))
  cases hl : s.lamp.on with
  | true => rw [armTile_lampOn x plate tile hl, offerStray_custody, hset]
  | false => rw [armTile_lampOff x plate tile hl, turnOn_custody, offerStray_custody, hset]

theorem arming_custody (s : State) : (arming s).custody = s.custody := by
  by_cases hm : s.mayArm = true
  · cases hc : s.candidate with
    | none => rw [arming_waits (.inr hc)]
    | some y =>
      obtain ⟨t, plate⟩ := y
      obtain ⟨-, tile, -, -, -, ht, hs⟩ := candidate_some hc
      rw [arming_candidate hm hc ht]
      exact armTile_custody plate ht hs
  · rw [arming_waits (.inl (Bool.eq_false_iff.2 hm))]

theorem abortToPending_custody {plate : Plate} (hc : s.currentTile = some (x, tile, plate)) (r : Reason) :
    (s.abortToPending x tile r).custody = s.custody :=
  setCurrent_custody (next := tile.aborted r) hc rfl

theorem charge_custody (s : State) (e : Entry) : (s.charge e).custody = s.custody := by
  unfold State.charge
  split
  · exact modTile_custody _ fun _ => rfl
  · split
    · rfl
    · exact offer_custody _ _

theorem judgeZone_custody (s : State) : s.judgeZone.custody = s.custody := by
  unfold State.judgeZone
  split
  · rfl
  simp only []
  split
  · rfl
  · split
    · exact modTile_custody _ fun _ => rfl
    · rfl

theorem heatStep_custody (s : State) : (heatStep s).custody = s.custody := by
  unfold heatStep
  split
  · rfl
  · exact judgeZone_custody _

theorem heatTick_custody (s : State) : (heatTick s).custody = s.custody := by
  unfold heatTick
  split
  · rfl
  simp only []
  split
  · split
    · exact (idleTimerExpiry_custody _).trans ((heatStep_custody _).trans (msTick_custody s))
    · exact (heatStep_custody _).trans ((idleTimerExpiry_custody _).trans (msTick_custody s))
  · exact (heatStep_custody _).trans (msTick_custody s)

end

end Sys2Proof.Machine
end

section
/-! PROOFS. The laws of reads (O55) and holds (O57) through every step: each operation of the part, then each command, then
the step. -/

namespace Sys2Proof.Machine

/-! ### What is kept -/

/-- A chain of moves that keeps the laws of reads and holds. -/
structure Kept (s t : State) : Prop where
  moves : Moves s t
  reads : ReadsLaw s → ReadsLaw t
  holds : AssemblyLaw s → HoldLaw s → HoldLaw t

section
variable {s t u : State}

theorem Kept.refl (s : State) : Kept s s := ⟨.refl, id, fun _ => id⟩

theorem Kept.trans (h : Kept s t) (g : Kept t u) : Kept s u where
  moves := h.moves.trans g.moves
  reads := g.reads ∘ h.reads
  holds law hs := g.holds (h.moves.keeps Move.assembly law) (h.holds law hs)

/-- What leaves the plates, the holds and the tiles' final states leaves the law of the holds. -/
theorem kept_of_reads (moves : Moves s t) (reads : ReadsLaw s → ReadsLaw t) (hplates : t.asm.plates = s.asm.plates)
    (hpool : t.hold.pool = s.hold.pool) (hfinal : t.tileIs Tile.final = s.tileIs Tile.final) : Kept s t where
  moves := moves
  reads := reads
  holds _ hs := hs.congr hplates hpool fun x => congrFun hfinal x

theorem Moves.kept (moves : Moves s t) (h : t.custody = s.custody) : Kept s t := by
  obtain ⟨hflags, hreads, hhold, hplates, hfinal⟩ := custody_iff.1 h
  exact kept_of_reads moves (fun law => law.congr hflags hreads hhold) hplates (by rw [hhold]) hfinal

theorem Alike.kept (h : Alike s t) (hc : t.custody = s.custody) : Kept s t := h.moves.kept hc

theorem kept_of_sight (h : t.sight = s.sight) (hc : t.custody = s.custody) : Kept s t := (moves_of_sight h).kept hc

theorem Kept.sight (h : Kept s t) (g : u.sight = t.sight) (hc : u.custody = t.custody) : Kept s u :=
  h.trans (kept_of_sight g hc)

theorem Kept.alike (h : Kept s t) (g : Alike t u) (hc : u.custody = t.custody) : Kept s u := h.trans (g.kept hc)

end

theorem foldl_kept {α : Type} (g : State → α → State) (h : ∀ s x, Kept s (g s x)) (l : List α) (s : State) :
    Kept s (l.foldl g s) :=
  foldl_inv (Kept s) g (fun _ x hs => hs.trans (h _ x)) l s (.refl s)

theorem offer_kept (s : State) (r : Record) : Kept s (s.offer r) := (offer_alike s r).kept (offer_custody s r)

theorem result_kept (s : State) (k : Take) (code : Code) (d : Nat) : Kept s (s.result k code d) :=
  (result_alike s k code d).kept (result_custody s k code d)

/-! ### Fences and the end of a tile -/

theorem deliverFence_kept (s : State) (x : TileNo) : Kept s (s.deliverFence x) :=
  ⟨.single (.fence x), deliverFence_reads x, deliverFence_holds x⟩

theorem closeCurrent_kept {s : State} {t : TileNo} {tile next : Tile} {plate : Plate} {o : ClosingOutcome}
    (heat : Option Nat) (hc : s.currentTile = some (t, tile, plate)) (hplace : SamePlace tile next)
    (ho : o ≠ .discarded) : Kept s (s.closeCurrent t next o heat) := by
  have hclose : Kept s (s.setTile t (some { next with state := .closing o heat })).leave :=
    Moves.kept (.single (.close hc hplace ho heat)) (setCurrent_custody hc rfl)
  cases hcarrier : s.merge.lastCarrier with
  | some id =>
    rw [closeCurrent_carrier _ _ _ _ hcarrier]
    exact hclose.sight rfl rfl
  | none =>
    rw [closeCurrent_noCarrier _ _ _ _ hcarrier]
    exact hclose.trans (deliverFence_kept _ t)

theorem abort_kept (s : State) (r : Reason) : Kept s (s.abort r) := by
  unfold State.abort
  split
  · exact .refl s
  · next hc =>
    split
    · exact closeCurrent_kept none hc (.refl _) (by simp)
    · exact Moves.kept (.single (.abort hc r)) (abortToPending_custody hc r)

theorem exposureTimerExpiry_kept (s : State) : Kept s (exposureTimerExpiry s) := by
  unfold exposureTimerExpiry
  split
  · exact .refl s
  · split
    · exact .refl s
    · exact abort_kept s _

/-! ### Writes -/

theorem completeFrame_kept {s : State} {t : TileNo} {tile : Tile} {plate : Plate}
    (hc : s.currentTile = some (t, tile, plate)) : Kept s (s.completeFrame t tile plate) := by
  by_cases hskip : s.merge.exposure + 1 < plate.bracket.length ∧ s.merge.dark ≠ 0
  · refine (completeFrame_moves hc).kept ?_
    rw [completeFrame_arms hskip]
    exact setCurrent_custody (next := (tile.addStats _ _).arm _ _) hc (arm_final _ _ _)
  · rw [completeFrame_closes hskip]
    exact closeCurrent_kept _ hc ⟨rfl, rfl, rfl, rfl, rfl⟩ (by simp)

theorem handOver_kept (s : State) (sc : Scan) : Kept s (s.handOver sc) := by
  unfold State.handOver
  split
  · next hc => exact completeFrame_kept hc
  · exact .refl s

theorem enterWrite_kept (s : State) (c : WriteClass) (w : WriteReq) : Kept s (s.enterWrite c w) := by
  by_cases hc : c = .capture
  · subst hc
    exact (((placeAll_alike s _).trans (takeCounts_alike _ _)).kept (placeAll_custody s _)).trans (handOver_kept _ _)
  · rw [enterWrite_plain c hc]
    exact (placeAll_alike s _).kept (placeAll_custody s _)

theorem passTurn_kept (s : State) : Kept s s.passTurnToReport := kept_of_sight (passTurn_sight s) (passTurn_custody s)

theorem postWrite_kept (s : State) (c : WriteClass) (w : WriteReq) : Kept s (s.postWrite c w) := by
  unfold State.postWrite
  simp only []
  split
  · refine Kept.sight (.trans ?_ (enterWrite_kept _ c w)) (answer_sight _ _ _ _) rfl
    split
    · exact .refl s
    · exact passTurn_kept s
  · exact kept_of_sight (holdWrite_sight s c w) rfl

theorem decodeWrite_kept (s : State) (w : WriteReq) : Kept s (s.decodeWrite w) := by
  unfold State.decodeWrite
  split
  · next k v _ =>
    have hpost : Kept s ((s.postFlag k v).postWrite (.post k v) w) :=
      (kept_of_sight (postFlag_sight s k v) (postFlag_custody s k v)).trans (postWrite_kept _ _ w)
    simp only []
    split
    · exact hpost
    · exact hpost.alike (search_alike _) (search_custody _)
  · exact (kept_of_sight (consumeValue_sight s _) (consumeValue_custody s _)).trans (postWrite_kept _ _ w)
  · exact postWrite_kept s _ w
  · exact (kept_of_sight (answer_sight s _ _ _) rfl).trans (offer_kept _ _)
  · exact postWrite_kept s _ w

theorem presentWrite_kept (s : State) (w : WriteReq) : Kept s (s.presentWrite w) := by
  unfold State.presentWrite
  split
  · exact kept_of_sight (answer_sight s _ _ _) rfl
  split
  · exact .refl s
  split
  · exact .refl s
  · exact decodeWrite_kept s w

theorem heldWriteEntry_kept (s : State) : Kept s (heldWriteEntry s) := by
  unfold heldWriteEntry
  split
  · exact .refl s
  simp only []
  split
  · refine Kept.alike (Kept.sight (.trans (Kept.sight ?_ (releaseHeld_sight _ _) rfl) (enterWrite_kept _ _ _))
      (answer_sight _ _ _ _) rfl) (presentDeferred_alike _) (presentDeferred_custody _)
    split
    · exact .refl s
    · exact passTurn_kept s
  · exact .refl s

/-! ### Reads, grants and responses -/

/-- A read of a master that comes in, is sent on or is answered leaves the pool and the tables. -/
theorem kept_of_asm {s t : State} (moves : Moves s t) (reads : ReadsLaw s → ReadsLaw t)
    (hpool : t.hold.pool = s.hold.pool) (hasm : t.asm = s.asm) : Kept s t :=
  kept_of_reads moves reads (by rw [hasm]) hpool (funext fun x => by simp only [State.tileIs, hasm])

theorem presentRead_pool (s : State) (r : ReadReq) :
    (s.presentRead r).hold.pool = s.hold.pool ∧ (s.presentRead r).asm = s.asm := by
  unfold State.presentRead
  split
  · exact ⟨rfl, rfl⟩
  split
  · exact ⟨rfl, rfl⟩
  unfold State.decodeRead
  simp only []
  split
  · unfold State.heldReadArrives
    split <;> simp
  · simp

theorem presentRead_kept (s : State) (r : ReadReq) : Kept s (s.presentRead r) := by
  obtain ⟨hpool, hasm⟩ := presentRead_pool s r
  exact kept_of_asm (presentRead_alike s r).moves (presentRead_reads r) hpool hasm

theorem holdTimerExpiry_kept (s : State) (m : Master) : Kept s (holdTimerExpiry m s) := by
  obtain ⟨-, hhold⟩ := takeOut_reads (fun r s => forwardStale_sent s .timeout r) (·.master == m) s
  exact kept_of_asm (holdTimerExpiry_alike s m).moves (holdTimerExpiry_reads m) (congrArg HoldUnit.pool hhold :) (by simp)

theorem arbiterGrant_kept (s : State) : Kept s (arbiterGrant s) :=
  kept_of_asm (arbiterGrant_alike s).moves arbiterGrant_reads (by simp) (by simp)

theorem readResponds_kept (s : State) (m : Master) (st : DownStatus) (d : List Word) : Kept s (s.readResponds m st d) := by
  refine kept_of_asm (moves_of_sight (readResponds_sight s m st d)) (readResponds_reads m st d) ?_ ?_ <;>
  · unfold State.readResponds
    split
    · rfl
    · cases st <;> rfl

theorem retired_kept (s : State) (st : DownStatus) (e : Entry) : Kept s (s.retired st e) := by
  unfold State.retired
  simp only []
  have hcharge : Kept s (if st = .fault then s.charge e else s) := by
    split
    · exact (charge_moves s e).kept (charge_custody s e)
    · exact .refl s
  have hleave := hcharge.trans (kept_of_asm (leaveSnapshots_alike _ e.id).moves (leaveSnapshots_reads e.id) rfl rfl)
  have hgone := (hleave.alike (dropCarrier_alike _ e.id) (dropCarrier_custody _ e.id)).sight (headerDrained_sight _ e)
    (headerDrained_custody _ e)
  unfold State.deliverOf
  split
  · exact hgone
  · exact hgone.trans (deliverFence_kept _ _)

theorem drainResponds_kept (s : State) (st : DownStatus) : Kept s (s.drainResponds st) := by
  unfold State.drainResponds
  split
  · exact .refl s
  · split
    · next e rest _ _ =>
      exact (kept_of_sight (s := s) (t := { s with pwq := { s.pwq with entries := rest } }) rfl rfl).trans
        (retired_kept _ st e)
    · exact .refl s

theorem fetchResponds_kept (s : State) (st : DownStatus) (d : List Word) : Kept s (s.fetchResponds st d) :=
  (fetchResponds_alike s st d).kept (fetchResponds_custody s st d)

theorem responds_kept (s : State) (id : Ident) (st : DownStatus) (d : List Word) : Kept s (s.responds id st d) := by
  cases id with
  | master m => exact readResponds_kept s m st d
  | fetch => exact fetchResponds_kept s st d
  | drain => exact drainResponds_kept s st

/-! ### Plan records -/

theorem acceptPlate_kept {s : State} {p : SlotNo} {ws : List Word} (hp : s.asm.plates[p] = none)
    (hcheck : firstFailing (plateChecks ws) = none) (hroom : s.hasRoom (geometryOf ws) = true) :
    Kept s (s.acceptPlate p ws) := by
  obtain ⟨hrows, hcols⟩ := plateChecks_sized hcheck
  simp only [State.hasRoom, Bool.and_eq_true, decide_eq_true_eq] at hroom
  obtain ⟨⟨-, htiles⟩, hholds⟩ := hroom
  exact ⟨.single (.plate hp hrows hcols htiles), acceptPlate_reads p ws,
    fun law holds => acceptPlate_holds holds law hp hcols htiles hholds⟩

theorem plateRecord_kept (s : State) : Kept s (plateRecord s) := by
  unfold plateRecord
  split
  · exact .refl s
  next k _ =>
  split
  · exact result_kept s _ _ _
  split
  · exact result_kept s _ _ _
  next hcheck =>
  split
  · exact result_kept s _ _ _
  split
  · exact result_kept s _ _ _
  next hroom =>
  split
  · exact result_kept s _ _ _
  next p more hslots =>
  have hmem : p ∈ s.freeSlots := by simp [hslots]
  have hp : s.asm.plates[p] = none := by simpa [State.freeSlots] using hmem
  exact (acceptPlate_kept hp hcheck (by simpa using hroom)).trans (result_kept _ _ _ _)

theorem acceptRetake_kept {s : State} {p : SlotNo} {plate : Plate} {t : TileNo} {tile : Tile}
    (hp : s.asm.plates[p] = some plate) (hlive : plate.state = .assembling ∨ plate.state = .complete)
    (hmem : t ∈ plate.tiles) (ht : s.asm.tiles[t] = some tile) (hfinal : tile.final = true)
    (hrow : s.holdForRow plate tile.row = true) : Kept s (s.acceptRetake p t tile) :=
  ⟨.single (.retake hp hlive hmem ht hfinal), acceptRetake_reads p t tile,
    fun law holds => acceptRetake_holds law holds hp hlive hmem ht hrow⟩

theorem retakeRecord_kept (s : State) : Kept s (retakeRecord s) := by
  unfold retakeRecord
  split
  · exact .refl s
  split
  · exact result_kept s _ _ _
  split
  · exact result_kept s _ _ _
  split
  · exact result_kept s _ _ _
  next plate hplate =>
  split
  · exact result_kept s _ _ _
  next t tile ht =>
  split
  · exact result_kept s _ _ _
  next hfinal =>
  split
  · exact result_kept s _ _ _
  next hrow =>
  obtain ⟨hp, hlive, -⟩ := namedPlate_some hplate
  obtain ⟨hmem, htile⟩ := mem_of_tileOf ht
  exact (acceptRetake_kept hp hlive hmem htile (by simpa using hfinal) (by simpa using hrow)).trans (result_kept _ _ _ _)

theorem dismissReservation_kept (s : State) : Kept s (dismissReservation s) :=
  ⟨dismissReservation_moves s, dismissReservation_reads, dismissReservation_holds⟩

/-! ### Stage, lamp and STATION -/

theorem decodeAxis_kept (s : State) (ax : Axis) : Kept s (s.decodeAxis ax) := by
  have hcheck : ∀ (u : State) p, Kept u ((u.count ax p).checkTolerance ax) := fun u p => by
    unfold State.checkTolerance
    split
    · exact (kept_of_sight (count_sight u ax p) rfl).trans (abort_kept _ _)
    · exact kept_of_sight (count_sight u ax p) rfl
  have href : Kept s { s with stage := s.stage.takeRef ax } :=
    kept_of_sight (withStage_sight s (takeRef_watched s.stage ax)) rfl
  unfold State.decodeAxis
  simp only []
  split
  · exact href
  · exact href.trans (hcheck _ _)
  · exact href.trans (hcheck _ _)
  · split
    · exact (href.trans (offer_kept _ _)).trans (abort_kept _ _)
    · exact href

theorem validTransition_kept (s : State) (ax : Axis) (line : EncLine) : Kept s (validTransition ax line s) :=
  (kept_of_sight (withStage_sight s (flip_watched s.stage ax line)) rfl).trans (decodeAxis_kept _ ax)

theorem invalidTransition_kept (s : State) (ax : Axis) : Kept s (invalidTransition ax s) :=
  (kept_of_sight (withStage_sight s ((flip_watched _ ax .b).trans (flip_watched s.stage ax .a))) rfl).trans
    (decodeAxis_kept _ ax)

theorem homeEdge_kept (s : State) (ax : Axis) : Kept s (homeEdge ax s) := by
  unfold homeEdge
  split
  · exact .refl s
  have hlevel : Kept s { s with stage := s.stage.setHome ax true } :=
    kept_of_sight (withStage_sight s (setHome_watched s.stage ax true)) rfl
  simp only []
  refine Kept.trans ?_ (abort_kept _ .homed)
  split
  · exact hlevel
  · exact hlevel.sight (count_sight _ _ _) rfl

theorem cutRise_kept (s : State) : Kept s (cutRise s) := by
  unfold cutRise
  split
  · exact .refl s
  · exact ((kept_of_sight (setCut_sight s true) rfl).trans (offer_kept _ _)).trans (abort_kept _ _)

theorem cutFall_kept (s : State) : Kept s (cutFall s) := (cutFall_alike s).kept (cutFall_custody s)

theorem fallingHomeEdge_kept (s : State) (ax : Axis) : Kept s (fallingHomeEdge ax s) :=
  kept_of_sight (fallingHomeEdge_sight s ax) (fallingHomeEdge_custody s ax)

theorem lineEvent_kept (c : Instr) (s : State) : Kept s (lineEvent c s) := by
  unfold lineEvent
  split
  · exact validTransition_kept s _ _
  · exact invalidTransition_kept s _
  · exact homeEdge_kept s _
  · exact fallingHomeEdge_kept s _
  · exact cutRise_kept s
  · exact cutFall_kept s
  · exact .refl s

theorem completeFilters_kept (s : State) : Kept s s.completeFilters := by
  refine (kept_of_sight (draw_sight s _) rfl).trans (foldl_kept _ (fun u c => ?_) _ _)
  exact (lineEvent_kept c u).sight (refresh_sight _) (refresh_custody _)

theorem acceptStation_kept (s : State) (st : Station) (h : ∀ p : SlotNo, s.asm.plates[p] = none) :
    Kept s (s.acceptStation st) := by
  have hunwatch : Kept s { s with stage := { s.stage with watched := none } } := Moves.kept (.single (.unwatch h)) rfl
  have htake : Kept s { s with
      plan := { s.plan with station := some st }
      clock := { s.clock with us := 0, ms := 0, lampDiv := 0 }
      stage := { s.stage with watched := none }
      seq := { s.seq with captureHeld := s.port.held.any (·.req.master == st.captureMaster) } } :=
    hunwatch.sight rfl rfl
  have hring := (htake.sight (newRing_sight _ st) rfl).sight (restartDwell_sight _) rfl
  exact (hring.trans ((lampStation_moves _ st).kept (judgeZone_custody _))).trans (completeFilters_kept _)

theorem stationRecord_kept (s : State) : Kept s (stationRecord s) := by
  unfold stationRecord
  split
  · exact .refl s
  simp only []
  split
  · exact result_kept s _ _ _
  split
  · exact result_kept s _ _ _
  split
  · exact result_kept s _ _ _
  next hidle =>
  refine (acceptStation_kept s _ fun p => ?_).trans (result_kept _ _ _ _)
  simp only [State.idleForStation, Bool.not_eq_true', Bool.not_eq_false, Bool.and_eq_true, List.all_eq_true] at hidle
  obtain ⟨hfree, -⟩ := hidle
  simpa using hfree s.asm.plates[p] (by simp)

/-! ### The step -/

theorem reset_kept (lines : StageLines) (straps : BitVec 12) (s : State) : Kept s (powerOnReset lines straps s) :=
  ⟨.single (.reset lines straps), fun _ => reset_reads lines straps s, fun _ _ => reset_holds lines straps s⟩

theorem effect_kept (c : Instr) (s : State) : Kept s (effect c s) := by
  cases c with
  | powerOnReset lines straps => exact reset_kept lines straps s
  | upstreamRequestFault r =>
    cases r with
    | read r => exact presentRead_kept s r
    | write w => exact presentWrite_kept s w
  | post w => exact presentWrite_kept s w
  | withdrawal w => exact presentWrite_kept s w
  | consume w => exact presentWrite_kept s w
  | capture w => exact presentWrite_kept s w
  | heldWrite w => exact presentWrite_kept s w
  | heldRead r => exact presentRead_kept s r
  | plainWrite w => exact presentWrite_kept s w
  | plainRead r => exact presentRead_kept s r
  | heldWriteEntry => exact heldWriteEntry_kept s
  | arbiterGrant => exact arbiterGrant_kept s
  | drainRetireOk => exact drainResponds_kept s .ok
  | drainRetireFault => exact drainResponds_kept s .fault
  | upstreamReadResponse m st data => exact readResponds_kept s m st data
  | fetchResponse st data => exact fetchResponds_kept s st data
  | unmatchedResponse id st data => exact responds_kept s id st data
  | station => exact stationRecord_kept s
  | plate => exact plateRecord_kept s
  | retake => exact retakeRecord_kept s
  | dismiss => exact (dismissRecord_alike s).kept (dismissRecord_custody s)
  | dismissReservation => exact dismissReservation_kept s
  | resultWordEntry => exact (resultWordEntry_alike s).kept (resultWordEntry_custody s)
  | recordLineEntry => exact (recordLineEntry_alike s).kept (recordLineEntry_custody s)
  | headerLineEntry => exact (headerLineEntry_alike s).kept (headerLineEntry_custody s)
  | arming => exact (arming_moves s).kept (arming_custody s)
  | periodEnd => exact (periodEnd_moves s).kept (periodEnd_custody s)
  | settleExpiry => exact (settleExpiry_moves s).kept (settleExpiry_custody s)
  | triggerPulseEnd => exact (triggerPulseEnd_alike s).kept (triggerPulseEnd_custody s)
  | deferredTrigger => exact (deferredTrigger_moves s).kept (deferredTrigger_custody s)
  | exposureTimerExpiry => exact exposureTimerExpiry_kept s
  | holdTimerExpiry m => exact holdTimerExpiry_kept s m
  | validTransition ax line => exact validTransition_kept s ax line
  | invalidTransition ax => exact invalidTransition_kept s ax
  | homeEdge ax => exact homeEdge_kept s ax
  | dwellExpiry => exact kept_of_sight (dwellExpiry_sight s) (dwellExpiry_custody s)
  | cutRise => exact cutRise_kept s
  | cutFall => exact cutFall_kept s
  | idleTimerExpiry => exact kept_of_sight (idleTimerExpiry_sight s) (idleTimerExpiry_custody s)
  | heatTick => exact (heatTick_moves s).kept (heatTick_custody s)
  | fallingHomeEdge ax => exact fallingHomeEdge_kept s ax

theorem usTick_kept (s : State) : Kept s s.usTick := kept_of_asm (usTick_alike s).moves usTick_reads rfl rfl

theorem msTick_kept (s : State) : Kept s s.msTick := kept_of_sight (msTick_sight s) (msTick_custody s)

theorem lampTick_kept (s : State) : Kept s s.lampTick := kept_of_sight (lampTick_sight s) (lampTick_custody s)

/-- A cycle's counters and samples are out of the laws' sight. -/
theorem sampled_kept (k : Ticks) (s : State) : Kept s { s.countClk k with stage := s.stage.sample s.rawLines } := by
  refine kept_of_sight ?_ (countClk_custody s k)
  unfold State.countClk
  split <;> rfl

theorem Kept.when {s t : State} {f : State → State} (h : Kept s t) (hf : ∀ u, Kept u (f u)) (c : Bool) :
    Kept s (if c then f t else t) := by
  cases c with
  | false => exact h
  | true => exact h.trans (hf t)

theorem advance_kept (k : Ticks) (s : State) : Kept s (s.advance k) :=
  ((((sampled_kept k s).sight (draw_sight _ 1) rfl).when usTick_kept k.us).when msTick_kept k.ms).when lampTick_kept k.lamp

theorem step_kept {s t : State} (h : step s = .next t) : Kept s t :=
  step_keeps (Kept s) (fun _ _ hs => hs.sight rfl rfl) (fun k _ hs => hs.trans (advance_kept k _))
    (fun n _ hs => hs.sight (draw_sight _ n) rfl)
    (fun c u hs => Kept.sight (hs.trans (effect_kept c u)) (refresh_sight _) (refresh_custody _))
    (fun u hs => Kept.sight (hs.trans ((heatStep_moves u).kept (heatStep_custody u))) (refresh_sight _) (refresh_custody _))
    (fun _ hs => hs.sight (refresh_sight _) (refresh_custody _)) (fun _ hs => hs.sight (conclude_sight _) (conclude_custody _))
    s t (.refl s) h

/-- Settles O55: `step_kept`, each operation that moves a read keeping the law by `SameReads`, `ReadsLaw.taken` or
`ReadsLaw.answered`. -/
theorem everyStepKeepsTheReadsLaw : Obligations.EveryStepKeepsTheReadsLaw := by
  unfold Obligations.EveryStepKeepsTheReadsLaw
  intro s t law h
  exact (step_kept h).reads law

/-- Settles O57: `step_kept`, each operation on plates, tiles and holds keeping the law by `HoldLaw.around` the slot that it
changes. -/
theorem everyStepKeepsTheHoldLaw : Obligations.EveryStepKeepsTheHoldLaw := by
  unfold Obligations.EveryStepKeepsTheHoldLaw
  intro s t law holds h
  exact (step_kept h).holds law holds

end Sys2Proof.Machine
end

section
/-! PROOFS. The law of the Posted Write Queue (O54): entries that change in place, writes that are placed, the head that is
drained and retires. -/

namespace Sys2Proof.Machine

section
variable {s t : State}

/-! ### The law reads the queue alone -/

theorem PwqLaw.congr (law : PwqLaw s) (h : t.pwq = s.pwq) : PwqLaw t where
  places := by rw [h]; exact law.places
  order := by rw [h]; exact law.order
  fresh := by rw [h]; exact law.fresh
  waiting := by rw [h]; exact law.waiting
  head := by rw [h]; exact law.head
  bytes := by rw [h]; exact law.bytes

theorem pwqLaw_of_empty (h : t.pwq.entries = []) : PwqLaw t := by
  constructor <;> simp [h]

/-! ### Entries that change in place -/

/-- An entry keeps its ordinal, its line and its state, and some byte enabled. -/
structure SameEntry (a b : Entry) : Prop where
  id : b.id = a.id
  line : b.line = a.line
  state : b.state = a.state
  bytes : anyByte a.bytes = true → anyByte b.bytes = true

theorem PwqLaw.mapped {f : Entry → Entry} (law : PwqLaw s) (hf : ∀ e, SameEntry e (f e))
    (h : t.pwq = { s.pwq with entries := s.pwq.entries.map f }) : PwqLaw t := by
  have hentries : t.pwq.entries = s.pwq.entries.map f := by rw [h]
  have hnext : t.pwq.nextId = s.pwq.nextId := by rw [h]
  constructor
  case places =>
    rw [hentries, List.length_map]
    exact law.places
  case order =>
    rw [hentries, List.pairwise_map]
    simpa only [(hf _).id] using law.order
  case fresh =>
    rw [hentries, hnext, List.forall_mem_map]
    simpa only [(hf _).id] using law.fresh
  case waiting =>
    rw [hentries, List.pairwise_map]
    simpa only [(hf _).state, (hf _).line] using law.waiting
  case head =>
    rw [hentries, ← List.map_tail, List.forall_mem_map]
    simpa only [(hf _).state] using law.head
  case bytes =>
    rw [hentries, List.forall_mem_map]
    exact fun e he => (hf e).bytes (law.bytes e he)

theorem withFence_same (n : Nat) (x : TileNo) (e : Entry) : SameEntry e (e.withFence n x) := by
  unfold Entry.withFence
  split <;> exact ⟨rfl, rfl, rfl, id⟩

theorem dropRef_same (ts : List TileNo) (e : Entry) : SameEntry e (e.dropRef ts) := by
  unfold Entry.dropRef
  split <;> exact ⟨rfl, rfl, rfl, id⟩

theorem toOldRing_same (e : Entry) : SameEntry e e.toOldRing := ⟨rfl, rfl, rfl, id⟩

/-- Bytes laid over a line leave it no byte fewer (R111). -/
theorem overlay_anyByte {old new : LineBytes} (h : anyByte old = true) : anyByte (overlay old new) = true := by
  rw [anyByte_iff] at h ⊢
  obtain ⟨k, hk⟩ := h
  refine ⟨k, ?_⟩
  rw [overlay_getElem]
  split
  · assumption
  · exact hk

theorem mergeIf_same (w : QWrite) (e : Entry) : SameEntry e (e.mergeIf w) := by
  unfold Entry.mergeIf
  split
  · unfold Entry.merge
    exact ⟨rfl, rfl, rfl, overlay_anyByte⟩
  · exact ⟨rfl, rfl, rfl, id⟩

/-! ### Writes that are placed (R110, R112) -/

/-- A write that finds no WAITING entry of its line opens one at the tail. -/
theorem PwqLaw.opened {w : QWrite} (law : PwqLaw s) (hbytes : anyByte w.bytes = true)
    (hroom : s.pwq.entries.length < 16) (hnew : s.pwq.hasWaiting w.line = false)
    (h : t.pwq = { entries := s.pwq.entries ++ [newEntry s.pwq.nextId w], nextId := s.pwq.nextId + 1 }) : PwqLaw t := by
  have hnone : ∀ e ∈ s.pwq.entries, ¬(e.line = w.line ∧ e.state = .waiting) := fun e he hsame =>
    Bool.eq_false_iff.1 hnew ((hasWaiting_iff _ _).2 ⟨e, he, hsame⟩)
  have hentries : t.pwq.entries = s.pwq.entries ++ [newEntry s.pwq.nextId w] := by rw [h]
  have hnext : t.pwq.nextId = s.pwq.nextId + 1 := by rw [h]
  constructor
  case places =>
    rw [hentries, List.length_append]
    exact hroom
  case order =>
    rw [hentries, List.pairwise_append]
    exact ⟨law.order, List.pairwise_singleton _ _, fun e he _ hn => List.mem_singleton.1 hn ▸ law.fresh e he⟩
  case fresh =>
    rw [hentries, hnext, List.forall_mem_append, List.forall_mem_singleton]
    exact ⟨fun e he => Nat.lt_succ_of_lt (law.fresh e he), Nat.lt_succ_self _⟩
  case waiting =>
    rw [hentries, List.pairwise_append]
    refine ⟨law.waiting, List.pairwise_singleton _ _, fun e he n hn hsame => ?_⟩
    obtain ⟨hstate, -, hline⟩ := hsame
    rw [List.mem_singleton.1 hn] at hline
    exact hnone e he ⟨hline, hstate⟩
  case head =>
    rw [hentries]
    cases hold : s.pwq.entries with
    | nil => exact fun _ he => nomatch he
    | cons e rest =>
      have hrest : ∀ x ∈ rest, x.state = .waiting := fun x hx => law.head x (by rwa [hold])
      rw [List.cons_append, List.tail_cons, List.forall_mem_append, List.forall_mem_singleton]
      exact ⟨hrest, rfl⟩
  case bytes =>
    rw [hentries, List.forall_mem_append, List.forall_mem_singleton]
    exact ⟨law.bytes, hbytes⟩

theorem PwqLaw.placed {w : QWrite} (law : PwqLaw s) (hbytes : anyByte w.bytes = true)
    (hroom : s.pwq.hasWaiting w.line = true ∨ s.pwq.entries.length < 16) (h : t.pwq = s.pwq.place w) : PwqLaw t := by
  cases hw : s.pwq.hasWaiting w.line with
  | true => exact law.mapped (mergeIf_same w) (by rw [h, place_merges hw])
  | false =>
    have hfree : s.pwq.entries.length < 16 := hroom.resolve_left (by simp [hw])
    exact law.opened hbytes hfree hw (by rw [h, place_opens hw])

/-- The queue writes of one taking enter when the free entries cover their need (R112). -/
theorem PwqLaw.placedAll (ws : List QWrite) {s : State} (law : PwqLaw s) (hbytes : ∀ w ∈ ws, anyByte w.bytes = true)
    (hroom : s.pwq.entries.length + s.pwq.need ws ≤ 16) : PwqLaw (s.placeAll ws) := by
  induction ws generalizing s with
  | nil => exact law
  | cons w ws ih =>
    rw [List.forall_mem_cons] at hbytes
    obtain ⟨hw, hws⟩ := hbytes
    rw [need_cons] at hroom
    have hone : s.pwq.hasWaiting w.line = true ∨ s.pwq.entries.length < 16 := by
      by_cases hwait : s.pwq.hasWaiting w.line = true
      · exact .inl hwait
      · rw [if_neg hwait] at hroom
        exact .inr (by omega)
    refine ih (law.placed hw hone (placeOne_pwq s w)) hws ?_
    have hneed := need_place_le s.pwq w ws
    have hlength := place_length s.pwq w
    rw [placeOne_pwq]
    omega

/-- A need that the free entries cover, or a need of 0, leaves the queue within its places. -/
theorem PwqLaw.room {ws : List QWrite} (law : PwqLaw s) (h : s.pwq.need ws = 0 ∨ s.pwq.need ws ≤ s.pwq.free) :
    s.pwq.entries.length + s.pwq.need ws ≤ 16 := by
  have hplaces := law.places
  simp only [Pwq.free, Config.pwqPlaces] at h
  omega

/-! ### The head (R116, R117) -/

theorem PwqLaw.drained {e : Entry} {rest : List Entry} (law : PwqLaw s) (hq : s.pwq.entries = e :: rest)
    (h : t.pwq = { s.pwq with entries := { e with state := .draining } :: rest }) : PwqLaw t := by
  obtain ⟨places, order, fresh, waiting, head, bytes⟩ := law
  rw [hq] at places order fresh waiting head bytes
  rw [List.pairwise_cons] at order waiting
  rw [List.forall_mem_cons] at fresh bytes
  have hentries : t.pwq.entries = { e with state := .draining } :: rest := by rw [h]
  have hnext : t.pwq.nextId = s.pwq.nextId := by rw [h]
  constructor
  case places =>
    rw [hentries]
    exact places
  case order =>
    rw [hentries, List.pairwise_cons]
    exact order
  case fresh =>
    rw [hentries, hnext, List.forall_mem_cons]
    exact fresh
  case waiting =>
    rw [hentries, List.pairwise_cons]
    obtain ⟨-, hrest⟩ := waiting
    exact ⟨fun _ _ ⟨hdraining, _⟩ => EntryState.noConfusion hdraining, hrest⟩
  case head =>
    rw [hentries]
    exact head
  case bytes =>
    rw [hentries, List.forall_mem_cons]
    exact bytes

theorem PwqLaw.retired {e : Entry} {rest : List Entry} (law : PwqLaw s) (hq : s.pwq.entries = e :: rest)
    (h : t.pwq = { s.pwq with entries := rest }) : PwqLaw t := by
  obtain ⟨places, order, fresh, waiting, head, bytes⟩ := law
  rw [hq] at places order fresh waiting head bytes
  have hentries : t.pwq.entries = rest := by rw [h]
  have hnext : t.pwq.nextId = s.pwq.nextId := by rw [h]
  constructor
  case places =>
    rw [hentries]
    exact (Nat.le_succ _).trans places
  case order =>
    rw [hentries]
    exact order.of_cons
  case fresh =>
    rw [hentries, hnext]
    exact fun x hx => fresh x (List.mem_cons_of_mem _ hx)
  case waiting =>
    rw [hentries]
    exact waiting.of_cons
  case head =>
    rw [hentries]
    exact fun x hx => head x (List.mem_of_mem_tail hx)
  case bytes =>
    rw [hentries]
    exact fun x hx => bytes x (List.mem_cons_of_mem _ hx)

end

/-! ### Every queue write has a byte enabled (R12, R16, R185) -/

theorem wordBytes_anyByte {pos : Nat} (hpos : pos < 8) (d : Word) : anyByte (wordBytes pos d 15) = true := by
  rw [anyByte_iff]
  refine ⟨⟨4 * pos, by omega⟩, ?_⟩
  simp [wordBytes]

theorem wholeLine_anyByte (line : Nat) {ws : List Word} (hws : ws ≠ []) (source : Source) (header : Option Nat) :
    anyByte (wholeLine line ws source header).bytes = true := by
  obtain ⟨d, ws, rfl⟩ := List.exists_cons_of_ne_nil hws
  have hfirst : { addr := line + 4 * 0, data := d, be := 15 } ∈ lineWords line (d :: ws) := by simp [lineWords]
  rw [← Bool.not_eq_false, wholeLine, gather_empty_iff]
  intro hempty
  have hbe : (15 : BitVec 4) = 0 := hempty _ hfirst
  exact absurd hbe (by decide)

theorem readyWrite_anyByte {s : State} {l : ReadyLine} {q : QWrite} (h : s.readyWrite l = some q) :
    anyByte q.bytes = true := by
  have hpos : ∀ a, wordPos a < 8 := fun a => by unfold wordPos; omega
  cases l with
  | record =>
    simp only [State.readyWrite] at h
    split at h
    · cases h
      exact wholeLine_anyByte _ (List.cons_ne_nil _ _) _ _
    · cases h
  | header base p live =>
    cases h
    exact wordBytes_anyByte (by decide) _
  | newHeader base =>
    cases h
    exact wholeLine_anyByte _ (List.cons_ne_nil _ _) _ _
  | result =>
    simp only [State.readyWrite] at h
    split at h
    · cases h
      exact wordBytes_anyByte (hpos _) _
    · cases h

theorem lineWrite_anyByte {ws : List WordWrite} {source : Source} {ref : Option TileNo} {q : QWrite}
    (h : q ∈ (lineWrite ws source ref).toList) : anyByte q.bytes = true := by
  obtain ⟨-, -, -, hbytes⟩ := lineWrite_some (Option.mem_toList.1 h)
  exact hbytes

theorem queueWrites_anyByte {s : State} {c : WriteClass} {w : WriteReq} {q : QWrite} (h : q ∈ s.queueWrites c w) :
    anyByte q.bytes = true := by
  by_cases hc : c = .capture
  · subst hc
    rw [State.queueWrites, writes_eq, List.mem_append, List.mem_append] at h
    rcases h with (h | h) | h <;> exact lineWrite_anyByte h
  · by_cases hr : c = .heldWrite
    · subst hr
      cases h
    · rw [queueWrites_plain c hc hr] at h
      exact lineWrite_anyByte h

end Sys2Proof.Machine
end

section
/-! PROOFS. The law of the Posted Write Queue (O54) through every step: each operation of the part, then each command, then
the step. -/

namespace Sys2Proof.Machine

section
variable {s : State}

/-! ### Fences (R24, R31, R119) -/

theorem freePlate_pwqLaw (p : SlotNo) (done failed : Nat) (law : PwqLaw s) : PwqLaw (s.freePlate p done failed) := by
  unfold State.freePlate
  split
  · exact law
  · next plate _ => exact law.mapped (dropRef_same plate.tiles) (by simp)

theorem freeIfDone_pwqLaw (p : SlotNo) (law : PwqLaw s) : PwqLaw (s.freeIfDone p) := by
  unfold State.freeIfDone
  split
  · split
    · split
      · exact freePlate_pwqLaw p _ _ law
      · exact law
    · exact law
  · exact law

theorem deliverFence_pwqLaw (x : TileNo) (law : PwqLaw s) : PwqLaw (s.deliverFence x) := by
  unfold State.deliverFence
  split
  · exact law
  split
  · split <;> exact law.congr (by simp)
  · exact law.congr (by simp)
  · exact freeIfDone_pwqLaw _ (law.congr rfl)
  · exact law

theorem closeCurrent_pwqLaw (x : TileNo) (tile : Tile) (o : ClosingOutcome) (heat : Option Nat) (law : PwqLaw s) :
    PwqLaw (s.closeCurrent x tile o heat) := by
  cases hcarrier : s.merge.lastCarrier with
  | some id =>
    rw [closeCurrent_carrier _ _ _ _ hcarrier]
    exact law.mapped (withFence_same id x) rfl
  | none =>
    rw [closeCurrent_noCarrier _ _ _ _ hcarrier]
    exact deliverFence_pwqLaw x (law.congr rfl)

theorem abort_pwqLaw (r : Reason) (law : PwqLaw s) : PwqLaw (s.abort r) := by
  unfold State.abort
  split
  · exact law
  split
  · exact closeCurrent_pwqLaw _ _ _ _ law
  · exact law.congr (by simp)

theorem exposureTimerExpiry_pwqLaw (law : PwqLaw s) : PwqLaw (exposureTimerExpiry s) := by
  unfold exposureTimerExpiry
  split
  · exact law
  split
  · exact law
  · exact abort_pwqLaw _ law

/-! ### Writes that enter (R101, R112, R113) -/

theorem handOver_pwqLaw (sc : Scan) (law : PwqLaw s) : PwqLaw (s.handOver sc) := by
  unfold State.handOver
  split
  · next tile plate _ _ =>
    by_cases hskip : s.merge.exposure + 1 < plate.bracket.length ∧ s.merge.dark ≠ 0
    · rw [completeFrame_arms hskip]
      exact law.congr rfl
    · rw [completeFrame_closes hskip]
      exact closeCurrent_pwqLaw _ _ _ _ law
  · exact law

theorem enterWrite_pwqLaw {c : WriteClass} {w : WriteReq} (law : PwqLaw s)
    (h : s.pwq.need (s.queueWrites c w) = 0 ∨ s.pwq.need (s.queueWrites c w) ≤ s.pwq.free) :
    PwqLaw (s.enterWrite c w) := by
  have hplaced : PwqLaw (s.placeAll (s.queueWrites c w)) :=
    law.placedAll _ (fun _ => queueWrites_anyByte) (law.room h)
  by_cases hc : c = .capture
  · subst hc
    exact handOver_pwqLaw _ (hplaced.congr rfl)
  · rwa [enterWrite_plain c hc]

/-- The port takes no part in it. -/
theorem enterWrite_atPort_pwqLaw {c : WriteClass} {w : WriteReq} (p : Port) (held : Bool) (law : PwqLaw s)
    (h : s.pwq.need (s.queueWrites c w) = 0 ∨ s.pwq.need (s.queueWrites c w) ≤ s.pwq.free) :
    PwqLaw ((s.atPort p held).enterWrite c w) :=
  enterWrite_pwqLaw (s := s.atPort p held) (law.congr rfl) h

theorem postWrite_pwqLaw (c : WriteClass) (w : WriteReq) (law : PwqLaw s) : PwqLaw (s.postWrite c w) := by
  cases h : s.canPlace (s.queueWrites c w) with
  | false =>
    rw [postWrite_held h]
    exact law.congr rfl
  | true =>
    rw [postWrite_enters h]
    exact (enterWrite_atPort_pwqLaw _ _ law (.inr ((canPlace_iff _ s).1 h))).congr rfl

theorem decodeWrite_pwqLaw (w : WriteReq) (law : PwqLaw s) : PwqLaw (s.decodeWrite w) := by
  unfold State.decodeWrite
  split
  · next k v _ =>
    have hpost : PwqLaw ((s.postFlag k v).postWrite (.post k v) w) := postWrite_pwqLaw _ w (law.congr (by simp))
    simp only []
    split
    · exact hpost
    · exact hpost.congr (by simp)
  · exact postWrite_pwqLaw _ w (law.congr (by simp))
  · exact postWrite_pwqLaw _ w law
  · exact law.congr (by simp)
  · exact postWrite_pwqLaw _ w law

theorem presentWrite_pwqLaw (w : WriteReq) (law : PwqLaw s) : PwqLaw (s.presentWrite w) := by
  unfold State.presentWrite
  split
  · exact law.congr rfl
  split
  · exact law
  split
  · exact law
  · exact decodeWrite_pwqLaw w law

theorem presentDeferred_pwq (s : State) : s.presentDeferred.pwq = s.pwq := by simp

theorem heldWriteEntry_pwqLaw (law : PwqLaw s) : PwqLaw (heldWriteEntry s) := by
  cases hheld : s.port.held with
  | none => rwa [heldWriteEntry_none hheld]
  | some x =>
    cases hmay : s.heldMayEnter (s.queueWrites x.cls x.req) with
    | false => rwa [heldWriteEntry_waits hheld hmay]
    | true =>
      rw [heldWriteEntry_enters hheld hmay]
      have hneed := ((heldMayEnter_iff _ s).1 hmay).imp_right And.left
      have hfreed : PwqLaw (s.freed x.req.master) := law.congr rfl
      exact (enterWrite_atPort_pwqLaw _ _ hfreed hneed).congr (presentDeferred_pwq _)

/-- The first ready line enters once it may (R113). -/
theorem enterReady_pwqLaw {l : ReadyLine} {rest : List ReadyLine} {q : QWrite} (law : PwqLaw s)
    (hl : s.report.ready = l :: rest) (hq : s.readyWrite l = some q) (hmay : s.readyMayEnter = true) :
    PwqLaw (s.enterReady q) :=
  law.placed (readyWrite_anyByte hq) (((readyMayEnter_one hl hq).1 hmay).imp_right And.left) (by simp)

theorem recordLineEntry_pwqLaw (law : PwqLaw s) : PwqLaw (recordLineEntry s) := by
  unfold recordLineEntry
  split
  · next st r rest hl hst hqueue =>
    split
    · next hmay =>
      have hq : s.readyWrite .record = some (recordWrite st s.report.produce r s.report.dropped) := by
        simp only [State.readyWrite, hst, hqueue]
      exact (enterReady_pwqLaw law hl hq hmay).congr rfl
    · exact law
  · exact law

theorem headerLineEntry_pwqLaw (law : PwqLaw s) : PwqLaw (headerLineEntry s) := by
  unfold headerLineEntry
  split
  · next hl =>
    split
    · next hmay => exact enterReady_pwqLaw law hl rfl hmay
    · exact law
  · next hl =>
    split
    · next hmay => exact enterReady_pwqLaw law hl rfl hmay
    · exact law
  · exact law

theorem resultWordEntry_pwqLaw (law : PwqLaw s) : PwqLaw (resultWordEntry s) := by
  unfold resultWordEntry
  split
  · next k hl htake =>
    split
    · next w hstep =>
      split
      · next hmay =>
        have hq : s.readyWrite .result = some (resultWrite (s.postWord k.slot) w) := by
          obtain ⟨slot, step, post, body⟩ := k
          cases hstep
          simp only [State.readyWrite, htake]
        exact (enterReady_pwqLaw law hl hq hmay).congr (by simp)
      · exact law
    · exact law
  · exact law

/-! ### Grants and responses (R116, R117, R126) -/

theorem grant_pwqLaw (c : ArbClass) (law : PwqLaw s) : PwqLaw (s.grant c) := by
  cases c with
  | read =>
    simp only [State.grant, State.grantRead]
    split <;> exact law.congr rfl
  | drain =>
    simp only [State.grant, State.grantDrain]
    split
    · exact law
    · next hq => exact law.drained hq rfl
  | fetch =>
    simp only [State.grant, State.grantFetch]
    split <;> exact law.congr rfl

theorem arbiterGrant_pwqLaw (law : PwqLaw s) : PwqLaw (arbiterGrant s) := by
  unfold arbiterGrant
  split
  · exact law.congr rfl
  · exact grant_pwqLaw _ (law.congr (by simp))

theorem drainResponds_pwqLaw (st : DownStatus) (law : PwqLaw s) : PwqLaw (s.drainResponds st) := by
  unfold State.drainResponds
  split
  · exact law
  next e rest hq =>
  split
  · have hgone : PwqLaw { s with pwq := { s.pwq with entries := rest } } := law.retired hq rfl
    unfold State.retired State.deliverOf
    simp only []
    split
    · split <;> exact hgone.congr (by simp)
    · refine deliverFence_pwqLaw _ ?_
      split <;> exact hgone.congr (by simp)
  · exact law

theorem readResponds_pwq (s : State) (m : Master) (st : DownStatus) (d : List Word) :
    (s.readResponds m st d).pwq = s.pwq := by
  unfold State.readResponds
  split
  · rfl
  · cases st <;> rfl

theorem fetchResponds_pwq (s : State) (st : DownStatus) (d : List Word) : (s.fetchResponds st d).pwq = s.pwq := by
  unfold State.fetchResponds
  split
  · cases st with
    | fault => rfl
    | ok =>
      simp only [State.postRead, State.lineRead]
      split
      · split <;> rfl
      · split <;> rfl
  · rfl

theorem responds_pwqLaw (id : Ident) (st : DownStatus) (d : List Word) (law : PwqLaw s) :
    PwqLaw (s.responds id st d) := by
  cases id with
  | master m => exact law.congr (readResponds_pwq s m st d)
  | fetch => exact law.congr (fetchResponds_pwq s st d)
  | drain => exact drainResponds_pwqLaw st law

theorem presentRead_pwq (s : State) (r : ReadReq) : (s.presentRead r).pwq = s.pwq := by
  unfold State.presentRead
  split
  · rfl
  split
  · rfl
  · unfold State.decodeRead
    split <;> simp

/-! ### Stage and lamp -/

theorem decodeAxis_pwqLaw (ax : Axis) (law : PwqLaw s) : PwqLaw (s.decodeAxis ax) := by
  have hcheck : ∀ {u : State}, PwqLaw u → PwqLaw (u.checkTolerance ax) := fun hu => by
    unfold State.checkTolerance
    split
    · exact abort_pwqLaw _ hu
    · exact hu
  unfold State.decodeAxis
  simp only []
  split
  · exact law.congr rfl
  · exact hcheck (law.congr rfl)
  · exact hcheck (law.congr rfl)
  · split
    · exact abort_pwqLaw _ (law.congr (by simp))
    · exact law.congr rfl

theorem homeEdge_pwqLaw (ax : Axis) (law : PwqLaw s) : PwqLaw (homeEdge ax s) := by
  unfold homeEdge
  split
  · exact law
  · refine abort_pwqLaw _ (law.congr ?_)
    simp only []
    split <;> rfl

theorem cutRise_pwqLaw (law : PwqLaw s) : PwqLaw (cutRise s) := by
  unfold cutRise
  split
  · exact law
  · exact abort_pwqLaw _ (law.congr (by simp))

theorem cutFall_pwq (s : State) : (cutFall s).pwq = s.pwq := by
  unfold cutFall
  split <;> simp

theorem fallingHomeEdge_pwq (s : State) (ax : Axis) : (fallingHomeEdge ax s).pwq = s.pwq := by
  unfold fallingHomeEdge
  split <;> rfl

theorem lineEvent_pwqLaw (c : Instr) (law : PwqLaw s) : PwqLaw (lineEvent c s) := by
  unfold lineEvent
  split
  · exact decodeAxis_pwqLaw _ (law.congr rfl)
  · exact decodeAxis_pwqLaw _ (law.congr rfl)
  · exact homeEdge_pwqLaw _ law
  · exact law.congr (fallingHomeEdge_pwq s _)
  · exact cutRise_pwqLaw law
  · exact law.congr (cutFall_pwq s)
  · exact law

theorem periodEnd_pwq (s : State) : (periodEnd s).pwq = s.pwq := by
  unfold periodEnd
  split <;> simp

theorem settleExpiry_pwq (s : State) : (settleExpiry s).pwq = s.pwq := by
  unfold settleExpiry
  split
  · split <;> simp
  · rfl

theorem triggerPulseEnd_pwq (s : State) : (triggerPulseEnd s).pwq = s.pwq := by
  unfold triggerPulseEnd
  split <;> rfl

theorem deferredTrigger_pwq (s : State) : (deferredTrigger s).pwq = s.pwq := by
  unfold deferredTrigger
  split
  · rfl
  · split <;> simp

theorem dwellExpiry_pwq (s : State) : (dwellExpiry s).pwq = s.pwq := by
  unfold dwellExpiry
  split <;> rfl

/-! ### Plan records -/

theorem completeFilters_pwqLaw (law : PwqLaw s) : PwqLaw s.completeFilters :=
  foldl_inv PwqLaw _ (fun _ c hu => (lineEvent_pwqLaw c hu).congr (by simp)) _ _ (law.congr rfl)

theorem acceptStation_pwqLaw (st : Station) (law : PwqLaw s) : PwqLaw (s.acceptStation st) :=
  completeFilters_pwqLaw (law.mapped toOldRing_same (by simp [State.lampStation]))

theorem stationRecord_pwqLaw (law : PwqLaw s) : PwqLaw (stationRecord s) := by
  unfold stationRecord
  split
  · exact law
  simp only []
  split
  · exact law.congr rfl
  split
  · exact law.congr rfl
  split
  · exact law.congr rfl
  · exact (acceptStation_pwqLaw _ law).congr rfl

theorem plateRecord_pwq (s : State) : (plateRecord s).pwq = s.pwq := by
  unfold plateRecord
  repeat' split
  all_goals simp

theorem retakeRecord_pwq (s : State) : (retakeRecord s).pwq = s.pwq := by
  unfold retakeRecord
  repeat' split
  all_goals simp

theorem dismissRecord_pwq (s : State) : (dismissRecord s).pwq = s.pwq := by
  unfold dismissRecord
  repeat' split
  all_goals simp

theorem result_pwq (s : State) (k : Take) (code : Code) (d : Nat) : (s.result k code d).pwq = s.pwq := rfl

theorem discardCurrent_pwqLaw (p : SlotNo) (law : PwqLaw s) : PwqLaw (s.discardCurrent p) := by
  unfold State.discardCurrent
  split
  · exact law
  split
  · exact closeCurrent_pwqLaw _ _ _ _ law
  · exact law

theorem discardPlate_pwqLaw (p : SlotNo) (plate : Plate) (law : PwqLaw s) : PwqLaw (s.discardPlate p plate) :=
  freeIfDone_pwqLaw p (law.congr (by simp))

theorem dismissReservation_pwqLaw (law : PwqLaw s) : PwqLaw (dismissReservation s) := by
  unfold dismissReservation
  split
  · exact law
  · refine PwqLaw.congr ?_ (result_pwq _ _ _ _)
    unfold State.acceptDismiss
    simp only []
    split
    · exact freePlate_pwqLaw _ _ _ (law.congr rfl)
    · exact discardPlate_pwqLaw _ _ (discardCurrent_pwqLaw _ (law.congr rfl))
    · exact law.congr rfl

/-! ### The step -/

theorem effect_pwqLaw (c : Instr) (law : PwqLaw s) : PwqLaw (effect c s) := by
  cases c with
  | powerOnReset lines straps => exact pwqLaw_of_empty rfl
  | upstreamRequestFault r =>
    cases r with
    | read r => exact law.congr (presentRead_pwq s r)
    | write w => exact presentWrite_pwqLaw w law
  | post w => exact presentWrite_pwqLaw w law
  | withdrawal w => exact presentWrite_pwqLaw w law
  | consume w => exact presentWrite_pwqLaw w law
  | capture w => exact presentWrite_pwqLaw w law
  | heldWrite w => exact presentWrite_pwqLaw w law
  | heldRead r => exact law.congr (presentRead_pwq s r)
  | plainWrite w => exact presentWrite_pwqLaw w law
  | plainRead r => exact law.congr (presentRead_pwq s r)
  | heldWriteEntry => exact heldWriteEntry_pwqLaw law
  | arbiterGrant => exact arbiterGrant_pwqLaw law
  | drainRetireOk => exact drainResponds_pwqLaw .ok law
  | drainRetireFault => exact drainResponds_pwqLaw .fault law
  | upstreamReadResponse m st data => exact law.congr (readResponds_pwq s m st data)
  | fetchResponse st data => exact law.congr (fetchResponds_pwq s st data)
  | unmatchedResponse id st data => exact responds_pwqLaw id st data law
  | station => exact stationRecord_pwqLaw law
  | plate => exact law.congr (plateRecord_pwq s)
  | retake => exact law.congr (retakeRecord_pwq s)
  | dismiss => exact law.congr (dismissRecord_pwq s)
  | dismissReservation => exact dismissReservation_pwqLaw law
  | resultWordEntry => exact resultWordEntry_pwqLaw law
  | recordLineEntry => exact recordLineEntry_pwqLaw law
  | headerLineEntry => exact headerLineEntry_pwqLaw law
  | arming => exact law.congr (by simp [effect])
  | periodEnd => exact law.congr (periodEnd_pwq s)
  | settleExpiry => exact law.congr (settleExpiry_pwq s)
  | triggerPulseEnd => exact law.congr (triggerPulseEnd_pwq s)
  | deferredTrigger => exact law.congr (deferredTrigger_pwq s)
  | exposureTimerExpiry => exact exposureTimerExpiry_pwqLaw law
  | holdTimerExpiry m => exact law.congr (by simp [effect])
  | validTransition ax line => exact decodeAxis_pwqLaw ax (law.congr rfl)
  | invalidTransition ax => exact decodeAxis_pwqLaw ax (law.congr rfl)
  | homeEdge ax => exact homeEdge_pwqLaw ax law
  | dwellExpiry => exact law.congr (dwellExpiry_pwq s)
  | cutRise => exact cutRise_pwqLaw law
  | cutFall => exact law.congr (cutFall_pwq s)
  | idleTimerExpiry => exact law.congr (by simp [effect])
  | heatTick => exact law.congr (by simp [effect])
  | fallingHomeEdge ax => exact law.congr (fallingHomeEdge_pwq s ax)

end

theorem advance_pwq (k : Ticks) (s : State) : (s.advance k).pwq = s.pwq := by
  have hcount : (s.countClk k).pwq = s.pwq := by
    unfold State.countClk
    split <;> rfl
  have hlamp : ∀ u : State, u.lampTick.pwq = u.pwq := fun u => by
    unfold State.lampTick
    split <;> rfl
  have hus : ∀ u : State, u.usTick.pwq = u.pwq := fun _ => rfl
  have hwhen : ∀ (c : Bool) (f : State → State), (∀ u, (f u).pwq = u.pwq) → ∀ u, (if c then f u else u).pwq = u.pwq :=
    fun c f hf u => by
      split
      · exact hf u
      · rfl
  unfold State.advance
  exact (hwhen _ _ hlamp _).trans ((hwhen _ _ (fun u => by simp) _).trans ((hwhen _ _ hus _).trans hcount))

/-- Settles O54: each operation that touches the queue changes its entries in place (`PwqLaw.mapped`), places writes that
have room (`PwqLaw.placed`), drains its head or lets it go. -/
theorem everyStepKeepsThePwqLaw : Obligations.EveryStepKeepsThePwqLaw := by
  unfold Obligations.EveryStepKeepsThePwqLaw
  exact step_keeps PwqLaw (fun _ _ law => law.congr rfl) (fun k s law => law.congr (advance_pwq k s))
    (fun _ _ law => law.congr rfl) (fun c _ law => (effect_pwqLaw c law).congr (by simp))
    (fun _ law => law.congr (by simp)) (fun _ law => law.congr (by simp)) (fun _ law => law.congr (by simp))

end Sys2Proof.Machine
end

section
/-! PROOFS. Requests that reach the port (05 5.1): misfits answered FAULT (O7), blocked masters (O8). -/

namespace Sys2Proof.Machine

/-- The rows that present a write, whatever class the sender takes it for (log entry 5). -/
def writeRows (w : WriteReq) : List Instr :=
  [.upstreamRequestFault (.write w), .post w, .withdrawal w, .consume w, .capture w, .heldWrite w, .plainWrite w]

/-- The rows that present a read. -/
def readRows (r : ReadReq) : List Instr := [.upstreamRequestFault (.read r), .heldRead r, .plainRead r]

theorem exec_writeRows {w : WriteReq} {s u : State} (h : s.presentWrite w = u) :
    ∀ c ∈ writeRows w, exec c s = .next (finish u) := by
  have heff : ∀ c ∈ writeRows w, effect c s = s.presentWrite w := by
    simp only [writeRows, List.forall_mem_cons, List.not_mem_nil, false_imp_iff, implies_true, and_true]
    exact ⟨rfl, rfl, rfl, rfl, rfl, rfl, rfl⟩
  exact fun c hc => exec_of_effect ((heff c hc).trans h)

theorem exec_readRows {r : ReadReq} {s u : State} (h : s.presentRead r = u) :
    ∀ c ∈ readRows r, exec c s = .next (finish u) := by
  have heff : ∀ c ∈ readRows r, effect c s = s.presentRead r := by
    simp only [readRows, List.forall_mem_cons, List.not_mem_nil, false_imp_iff, implies_true, and_true]
    exact ⟨rfl, rfl, rfl⟩
  exact fun c hc => exec_of_effect ((heff c hc).trans h)

/-- R98: word aligned, and the last beat within the line of the first. -/
theorem fitsLine_iff (a : BitVec 32) (n : Nat) :
    fitsLine a n = true ↔ a.toNat % 4 = 0 ∧ a.toNat % 32 + 4 * n ≤ 32 := by
  simp [fitsLine]

theorem fitsLine_misfit {a : BitVec 32} {n : Nat} (h : a.toNat % 4 ≠ 0 ∨ 32 < a.toNat % 32 + 4 * n) :
    fitsLine a n = false := by
  rw [← Bool.not_eq_true, fitsLine_iff]
  omega

theorem presentWrite_misfit {w : WriteReq} (s : State) (h : fitsLine w.addr w.beats.length = false) :
    s.presentWrite w = s.answeredOnly w.master .fault [] := by
  simp only [State.presentWrite, h]
  rfl

theorem presentRead_misfit {r : ReadReq} (s : State) (h : fitsLine r.addr r.beats = false) :
    s.presentRead r = s.answeredOnly r.master .fault [] := by
  simp only [State.presentRead, h]
  rfl

/-- R99, R101: a write is not taken while its master has a read outstanding, or while any write is held. -/
theorem presentWrite_blocked {w : WriteReq} {s : State} (hfits : fitsLine w.addr w.beats.length = true)
    (h : s.port.outstanding[w.master] = true ∨ s.port.held.isSome = true) : s.presentWrite w = s := by
  simp only [State.presentWrite, hfits, Bool.not_true, Bool.false_eq_true, if_false]
  rcases h with h | h
  · exact if_pos (by simp [State.blocked, h])
  · rw [if_pos h, ite_self]

/-- R99, R101: a read is not taken while its master has a read outstanding or a write held. -/
theorem presentRead_blocked {r : ReadReq} {s : State} (hfits : fitsLine r.addr r.beats = true)
    (h : s.port.outstanding[r.master] = true ∨ s.port.held.any (·.req.master == r.master) = true) :
    s.presentRead r = s := by
  have hblocked : s.blocked r.master = true := by simpa only [State.blocked, Bool.or_eq_true] using h
  simp [State.presentRead, hfits, hblocked]

/-- Settles O7: `presentWrite_misfit` and `presentRead_misfit`, for every row that presents the request. -/
theorem misalignedRequestIsFaulted : Obligations.MisalignedRequestIsFaulted := by
  unfold Obligations.MisalignedRequestIsFaulted
  exact ⟨fun w s h => exec_writeRows (presentWrite_misfit s (fitsLine_misfit h)),
    fun r s h => exec_readRows (presentRead_misfit s (fitsLine_misfit h))⟩

/-- Settles O8: `presentWrite_blocked` and `presentRead_blocked`, for every row that presents the request. -/
theorem blockedRequestsAreNotTaken : Obligations.BlockedRequestsAreNotTaken := by
  unfold Obligations.BlockedRequestsAreNotTaken
  exact ⟨fun w s hfits h => exec_writeRows (presentWrite_blocked hfits h),
    fun r s hfits h => exec_readRows (presentRead_blocked hfits h), fitsLine_iff⟩

end Sys2Proof.Machine
end

section
/-! PROOFS. Writes at their decode (05): the class of a write (O9), and the queue write of a posted write (O10). -/

namespace Sys2Proof.Machine

/-! ### The beats of a write -/

/-- Table 5-1: beat i is the word at address + 4 × i. -/
theorem mem_writeWords (w : WriteReq) (x : WordWrite) :
    x ∈ writeWords w ↔ ∃ (i : Nat) (b : Beat), w.beats[i]? = some b
      ∧ x = { addr := w.addr.toNat + 4 * i, data := b.data, be := b.be } := by
  simp only [writeWords, List.mem_map, Prod.exists, List.mem_zipIdx_iff_getElem?]
  exact ⟨fun ⟨b, i, hb, hx⟩ => ⟨i, b, hb, hx.symm⟩, fun ⟨i, b, hb, hx⟩ => ⟨b, i, hb, hx.symm⟩⟩

/-- R103: a full-word beat at an address is the one beat there, with all four enables. -/
theorem fullBeatAt_iff (w : WriteReq) (a : Nat) (v : Word) :
    fullBeatAt w a = some v ↔ ∃ (i : Nat) (b : Beat), w.beats[i]? = some b ∧ b.be = 15#4
      ∧ w.addr.toNat + 4 * i = a ∧ b.data = v := by
  have hfound : ∀ x, (writeWords w).find? (fun x => x.addr == a && x.be == 15#4) = some x →
      ∃ (i : Nat) (b : Beat), w.beats[i]? = some b ∧ b.be = 15#4 ∧ w.addr.toNat + 4 * i = a ∧ b.data = x.data := by
    intro x hx
    obtain ⟨i, b, hb, rfl⟩ := (mem_writeWords w x).1 (List.mem_of_find?_eq_some hx)
    have hfits := List.find?_some hx
    rw [Bool.and_eq_true, beq_iff_eq, beq_iff_eq] at hfits
    obtain ⟨haddr, hbe⟩ := hfits
    exact ⟨i, b, hb, hbe, haddr, rfl⟩
  rw [fullBeatAt, Option.map_eq_some_iff]
  constructor
  · rintro ⟨x, hx, rfl⟩
    exact hfound x hx
  · rintro ⟨i, b, hb, hbe, haddr, rfl⟩
    have hmem : { addr := w.addr.toNat + 4 * i, data := b.data, be := b.be } ∈ writeWords w :=
      (mem_writeWords w _).2 ⟨i, b, hb, rfl⟩
    have hsome : ((writeWords w).find? fun x => x.addr == a && x.be == 15#4).isSome = true := by
      rw [List.find?_isSome]
      exact ⟨_, hmem, by simp [haddr, hbe]⟩
    obtain ⟨x, hx⟩ := Option.isSome_iff_exists.1 hsome
    obtain ⟨i', b', hb', -, haddr', hdata⟩ := hfound x hx
    obtain rfl : i = i' := by omega
    obtain rfl : b = b' := Option.some_inj.1 (hb.symm.trans hb')
    exact ⟨x, hx, hdata.symm⟩

/-! ### Classes (Table 5-4) -/

/-- The first slot whose post word has a full-word beat is the one posted. -/
theorem classify_post {w : WriteReq} {s : State} {k : PlanSlot} {v : Word} (hk : fullBeatAt w (s.postWord k) = some v)
    (hfirst : ∀ j < k, fullBeatAt w (s.postWord j) = none) : s.classify w = .post k v := by
  have hpost : s.postOf w = some (k, v) :=
    findSome?_of_first (by rw [hk, Option.map_some]) fun j hj => by rw [hfirst j hj, Option.map_none]
  simp only [State.classify, hpost]

theorem postOf_none {w : WriteReq} {s : State} (h : ∀ k : PlanSlot, fullBeatAt w (s.postWord k) = none) :
    s.postOf w = none :=
  List.findSome?_eq_none_iff.2 fun k _ => by rw [h k, Option.map_none]

theorem classify_unconfigured {w : WriteReq} {s : State} (hpost : s.postOf w = none) (h : s.plan.station = none) :
    s.classify w = .plain := by
  simp only [State.classify, hpost, h]

theorem classify_consume {w : WriteReq} {s : State} {st : Station} {v : Word} (hpost : s.postOf w = none)
    (h : s.plan.station = some st) (hv : fullBeatAt w (st.reportBase + 4) = some v) : s.classify w = .consume v := by
  simp only [State.classify, hpost, h, hv]

/-- With neither POST nor CONSUME: CAPTURE, HELD-WRITE and PLAIN in this order. -/
theorem classify_rest {w : WriteReq} {s : State} {st : Station} (hpost : s.postOf w = none)
    (h : s.plan.station = some st) (hv : fullBeatAt w (st.reportBase + 4) = none) :
    s.classify w = if w.master = st.captureMaster ∧ inRange st.window w.addr.toNat = true then .capture
      else if (s.holdOf (addrLine w.addr)).isSome = true then .heldWrite else .plain := by
  simp only [State.classify, hpost, h, hv]

/-- R76: a line is held when it lies in the range of a HELD hold. -/
theorem holdOf_isSome_iff (s : State) (line : Nat) :
    (s.holdOf line).isSome = true ↔
      ∃ (h : HoldNo) (x : Hold), s.hold.pool[h] = some x ∧ x.base ≤ line ∧ line < x.base + x.size := by
  constructor
  · intro h
    obtain ⟨g, hg⟩ := Option.isSome_iff_exists.1 h
    obtain ⟨x, hx, hin⟩ := holdOf_some hg
    exact ⟨g, x, hx, (inRange_iff _ _).1 hin⟩
  · rintro ⟨g, x, hx, hin⟩
    by_contra hnone
    rw [Bool.not_eq_true, Option.isSome_eq_false_iff, Option.isNone_iff_eq_none, State.holdOf, List.find?_eq_none]
      at hnone
    refine hnone g (List.mem_finRange g) ?_
    rw [hx]
    exact (inRange_iff (x.base, x.size) line).2 hin

/-- Settles O9: each class of Table 5-4 by its `classify` lemma, the beat by `fullBeatAt_iff`. -/
theorem writesAreClassedInOrder : Obligations.WritesAreClassedInOrder := by
  unfold Obligations.WritesAreClassedInOrder
  intro w s at'
  refine ⟨fullBeatAt_iff w, fun k v hk hfirst => classify_post hk hfirst, fun hnone => ?_⟩
  have hpost : s.postOf w = none := postOf_none hnone
  refine ⟨classify_unconfigured hpost, fun st hst => ⟨fun v hv => classify_consume hpost hst hv, fun hv => ?_⟩⟩
  intro captured held
  have hcaptured : (w.master = st.captureMaster ∧ inRange st.window w.addr.toNat = true) ↔ captured :=
    and_congr_right fun _ => inRange_iff _ _
  have hheld : (s.holdOf (addrLine w.addr)).isSome = true ↔ held := holdOf_isSome_iff s _
  rw [classify_rest hpost hst hv]
  simp only [hcaptured, hheld]
  exact ⟨fun h => if_pos h, fun hc hh => (if_neg hc).trans (if_pos hh), fun hc hh => (if_neg hc).trans (if_neg hh)⟩

/-! ### The queue write of an upstream write (R100, R195) -/

/-- A search whose one answering element is given finds its answer. -/
theorem findSome?_of_only {α β : Type} {f : α → Option β} {l : List α} {y : α} (hy : y ∈ l)
    (honly : ∀ x ∈ l, f x ≠ none → x = y) : l.findSome? f = f y := by
  cases hf : l.findSome? f with
  | none => exact (List.findSome?_eq_none_iff.1 hf y hy).symm
  | some b =>
    obtain ⟨x, hx, hb⟩ := List.exists_of_findSome?_eq_some hf
    rw [← honly x hx (by simp [hb]), hb]

/-- Beat i of a write that fits its line stands at the place address + 4 × i of the line. -/
theorem byteAt_beat {w : WriteReq} (hfits : fitsLine w.addr w.beats.length = true) {i : Nat} {b : Beat}
    (hb : w.beats[i]? = some b) (k : Fin 32) :
    ({ addr := w.addr.toNat + 4 * i, data := b.data, be := b.be } : WordWrite).byteAt k =
      if w.addr.toNat % 32 + 4 * i ≤ k.val ∧ k.val < w.addr.toNat % 32 + 4 * i + 4
        ∧ b.be.getLsbD (k.val % 4) = true then some (b.data.extractLsb' (8 * (k.val % 4)) 8) else none := by
  obtain ⟨halign, hline⟩ := (fitsLine_iff _ _).1 hfits
  obtain ⟨hi, -⟩ := List.getElem?_eq_some_iff.1 hb
  have hplace : (w.addr.toNat + 4 * i) % 32 / 4 = k.val / 4 ↔
      w.addr.toNat % 32 + 4 * i ≤ k.val ∧ k.val < w.addr.toNat % 32 + 4 * i + 4 := by omega
  simp only [WordWrite.byteAt, hplace, and_assoc]

/-- The bytes of a write that fits its line: each beat's enabled bytes at their own places, no other byte. -/
theorem gather_writeWords {w : WriteReq} (hfits : fitsLine w.addr w.beats.length = true) :
    (∀ (i : Nat) (b : Beat), w.beats[i]? = some b → ∀ j < 4, (gather (writeWords w))[w.addr.toNat % 32 + 4 * i + j]? =
      some (if b.be.getLsbD j then some (b.data.extractLsb' (8 * j) 8) else none))
    ∧ ∀ k < 32, (k < w.addr.toNat % 32 ∨ w.addr.toNat % 32 + 4 * w.beats.length ≤ k) →
      (gather (writeWords w))[k]? = some none := by
  obtain ⟨halign, hline⟩ := (fitsLine_iff _ _).1 hfits
  have hget : ∀ k : Fin 32, (gather (writeWords w))[k.val]? =
      some ((writeWords w).reverse.findSome? (WordWrite.byteAt k)) := fun k => by
    rw [← gather_getElem]
    exact Vector.getElem?_eq_getElem k.isLt
  constructor
  · intro i b hb j hj
    obtain ⟨hi, -⟩ := List.getElem?_eq_some_iff.1 hb
    have hk : w.addr.toNat % 32 + 4 * i + j < 32 := by omega
    have hmem : { addr := w.addr.toNat + 4 * i, data := b.data, be := b.be } ∈ (writeWords w).reverse :=
      List.mem_reverse.2 ((mem_writeWords w _).2 ⟨i, b, hb, rfl⟩)
    rw [hget ⟨_, hk⟩, findSome?_of_only hmem, byteAt_beat hfits hb]
    · have hmod : (w.addr.toNat % 32 + 4 * i + j) % 4 = j := by omega
      simp [hmod, hj]
    · intro x hx hsome
      obtain ⟨i', b', hb', rfl⟩ := (mem_writeWords w x).1 (List.mem_reverse.1 hx)
      rw [byteAt_beat hfits hb', ne_eq, ite_eq_right_iff, Classical.not_imp] at hsome
      obtain ⟨⟨hle, hlt, -⟩, -⟩ := hsome
      obtain rfl : i' = i := by
        simp only at hle hlt
        omega
      rw [Option.some_inj.1 (hb'.symm.trans hb)]
  · intro k hk hout
    rw [hget ⟨k, hk⟩, List.findSome?_eq_none_iff.2]
    intro x hx
    obtain ⟨i, b, hb, rfl⟩ := (mem_writeWords w x).1 (List.mem_reverse.1 hx)
    obtain ⟨hi, -⟩ := List.getElem?_eq_some_iff.1 hb
    rw [byteAt_beat hfits hb, if_neg]
    rintro ⟨hle, hlt, -⟩
    simp only at hle hlt
    omega

/-- R100: there is no queue write when no enable is set. -/
theorem lineWrite_writeWords_none (w : WriteReq) :
    lineWrite (writeWords w) .upstream none = none ↔ ∀ b ∈ w.beats, b.be = 0 := by
  have hbeats : (∀ y ∈ writeWords w, y.be = 0) ↔ ∀ b ∈ w.beats, b.be = 0 := by
    constructor
    · intro h b hb
      obtain ⟨i, hi⟩ := List.mem_iff_getElem?.1 hb
      exact h _ ((mem_writeWords w _).2 ⟨i, b, hi, rfl⟩)
    · intro h y hy
      obtain ⟨i, b, hb, rfl⟩ := (mem_writeWords w y).1 hy
      exact h b (List.mem_of_getElem? hb)
  rw [← hbeats]
  cases writeWords w with
  | nil => simp [lineWrite]
  | cons x rest => exact lineWrite_none_iff x rest _ _

theorem lineWrite_writeWords_some {w : WriteReq} {q : QWrite} (h : lineWrite (writeWords w) .upstream none = some q) :
    q.line = w.addr.toNat / 32 * 32 ∧ q.bytes = gather (writeWords w) := by
  cases hws : writeWords w with
  | nil =>
    rw [hws] at h
    cases h
  | cons x rest =>
    have haddr : x.addr = w.addr.toNat := by
      have hhead : (writeWords w)[0]? = some x := by rw [hws, List.getElem?_cons_zero]
      simp only [writeWords, List.getElem?_map, List.getElem?_zipIdx, Option.map_map, Option.map_eq_some_iff] at hhead
      obtain ⟨b, -, rfl⟩ := hhead
      rfl
    rw [hws] at h
    rw [← haddr]
    exact lineWrite_place h

/-- Settles O10: `postWrite_plain` for the write, `gather_writeWords` for its bytes. -/
theorem plainWriteIsPosted : Obligations.PlainWriteIsPosted := by
  unfold Obligations.PlainWriteIsPosted
  refine ⟨fun w s htakes hclass => exec_writeRows (w := w) ?_ _ (by simp [writeRows]),
    fun w hfits => ⟨lineWrite_writeWords_none w, fun q hq => ?_⟩⟩
  · have hdecode : s.decodeWrite w = s.postWrite .plain w := by simp only [State.decodeWrite, hclass]
    have hpost : s.postWrite .plain w = s.postedOrHeld .plain w :=
      postWrite_plain .plain WriteClass.noConfusion WriteClass.noConfusion w s
    exact htakes.present.trans (hdecode.trans hpost)
  · obtain ⟨hsource, href, hheader, -⟩ := lineWrite_some hq
    obtain ⟨hline, hbytes⟩ := lineWrite_writeWords_some hq
    rw [hbytes]
    exact ⟨hline, hsource, href, hheader, gather_writeWords hfits⟩

end Sys2Proof.Machine
end

section
/-! PROOFS. The Report Writer side of the tail (05, 10): lines that enter (O22), and the part's own step (O3). -/

namespace Sys2Proof.Machine

section
variable {s : State} {l : ReadyLine} {rest : List ReadyLine} {q : QWrite}

/-! ### The first ready line enters (R113, R189) -/

theorem readyWrite_tileRef (h : s.readyWrite l = some q) : q.tileRef = none := by
  cases l with
  | record =>
    simp only [State.readyWrite] at h
    split at h
    · cases h
      rfl
    · cases h
  | header base p live =>
    cases h
    rfl
  | newHeader base =>
    cases h
    rfl
  | result =>
    simp only [State.readyWrite] at h
    split at h
    · cases h
      rfl
    · cases h

theorem enterReady_eq (hl : s.report.ready = l :: rest) (hq : s.readyWrite l = some q) :
    s.enterReady q = { s.entered q with report := { s.report with ready := rest, waits := false } } := by
  rw [State.enterReady, placeOne_plain _ _ (readyWrite_tileRef hq), hl]
  cases hheld : s.port.held with
  | none =>
    simp only [State.entered, hheld, Option.isSome_none, if_neg Bool.false_ne_true]
    rw [← hheld]
    rfl
  | some x => simp [State.entered, hheld]

theorem readyWrite_of_record {st : Station} {r : Record} {rs : List Record} (hst : s.plan.station = some st)
    (hqueue : s.report.queue = r :: rs) :
    s.readyWrite .record = some (recordWrite st s.report.produce r s.report.dropped) := by
  simp only [State.readyWrite, hst, hqueue]

theorem recordLineEntry_enters {st : Station} {r : Record} {rs : List Record} (hst : s.plan.station = some st)
    (hqueue : s.report.queue = r :: rs) (hl : s.report.ready = .record :: rest) (hmay : s.readyMayEnter = true) :
    recordLineEntry s =
      let next := (s.report.produce + 1) % st.capacity
      { s.entered (recordWrite st s.report.produce r s.report.dropped) with report := { s.report with
        queue := rs, dropped := false, produce := next, waits := false
        ready := rest ++ [.header st.reportBase next true] } } := by
  simp only [recordLineEntry, hl, hst, hqueue, hmay, if_true, enterReady_eq hl (readyWrite_of_record hst hqueue)]

theorem recordLineEntry_waits (h : s.readyMayEnter = false) : recordLineEntry s = s := by
  unfold recordLineEntry
  split
  · simp [h]
  · rfl

/-- A line that stands for one of the two kinds of header write. -/
theorem headerLineEntry_enters (hl : s.report.ready = l :: rest) (hq : s.readyWrite l = some q)
    (hrow : l.entryRow = .headerLineEntry) (hmay : s.readyMayEnter = true) :
    headerLineEntry s = { s.entered q with report := { s.report with ready := rest, waits := false } } := by
  rw [← enterReady_eq hl hq]
  cases l with
  | record => cases hrow
  | header base p live =>
    cases hq
    simp only [headerLineEntry, hl, hmay, if_true]
  | newHeader base =>
    cases hq
    simp only [headerLineEntry, hl, hmay, if_true]
  | result => cases hrow

theorem headerLineEntry_waits (h : s.readyMayEnter = false) : headerLineEntry s = s := by
  unfold headerLineEntry
  split
  · simp [h]
  · simp [h]
  · rfl

end

/-- Settles O22: `recordLineEntry_enters` and `headerLineEntry_enters`, where `readyMayEnter_one` says when a line may. -/
theorem reportLinesEnter : Obligations.ReportLinesEnter := by
  unfold Obligations.ReportLinesEnter
  constructor
  · intro s st r rs rest hst hqueue hl q next
    have hmay : s.readyMayEnter = true ↔ s.MayEnter q := readyMayEnter_one hl (readyWrite_of_record hst hqueue)
    exact ⟨fun h => exec_of_effect (recordLineEntry_enters hst hqueue hl (hmay.2 h)),
      fun h => exec_of_effect (recordLineEntry_waits (Bool.eq_false_iff.2 fun hm => h (hmay.1 hm)))⟩
  · intro s l rest q hl hline
    obtain ⟨hq, hrow⟩ : s.readyWrite l = some q ∧ l.entryRow = .headerLineEntry := by
      rcases hline with ⟨base, p, live, rfl, rfl⟩ | ⟨base, rfl, rfl⟩ <;> exact ⟨rfl, rfl⟩
    have hmay : s.readyMayEnter = true ↔ s.MayEnter q := readyMayEnter_one hl hq
    exact ⟨fun h => exec_of_effect (headerLineEntry_enters hl hq hrow (hmay.2 h)),
      fun h => exec_of_effect (headerLineEntry_waits (Bool.eq_false_iff.2 fun hm => h (hmay.1 hm)))⟩

/-! ### The part's own step (log entries 1, 3) -/

theorem step_own {s : State} {c : Instr} (hpending : s.pending = []) (h : s.ownStep = some c) : step s = exec c s := by
  simp only [step, hpending, idle, h]

theorem step_cycle {s : State} (hpending : s.pending = []) (h : s.ownStep = none) : step s = .next (clkCycle s) := by
  simp only [step, hpending, idle, h]

/-- A line without a write has no need, so nothing keeps it waiting. -/
theorem readyMayEnter_cons {s : State} {l : ReadyLine} {rest : List ReadyLine} (hl : s.report.ready = l :: rest) :
    s.readyMayEnter = true ↔ ∀ q, s.readyWrite l = some q → s.MayEnter q := by
  cases hq : s.readyWrite l with
  | none =>
    have hneed : s.readyNeed = 0 := by simp [State.readyNeed, hl, hq, Pwq.need]
    simp [readyMayEnter_iff, hneed]
  | some q =>
    rw [readyMayEnter_one hl hq]
    exact ⟨fun h q' hq' => Option.some_inj.1 hq' ▸ h, fun h => h q rfl⟩

theorem ownStep_iff (s : State) (c : Instr) :
    s.ownStep = some c ↔ ∃ l rest, s.report.ready = l :: rest ∧ c = l.entryRow
      ∧ ∀ q, s.readyWrite l = some q → s.MayEnter q := by
  unfold State.ownStep State.lineReady
  cases hl : s.report.ready with
  | nil => simp
  | cons l rest =>
    rw [Option.ite_none_right_eq_some, readyMayEnter_cons hl]
    simp only [List.head?_cons, Option.map_some, Option.some.injEq, List.cons.injEq]
    constructor
    · rintro ⟨hmay, rfl⟩
      exact ⟨l, rest, ⟨rfl, rfl⟩, rfl, hmay⟩
    · rintro ⟨l', rest', ⟨rfl, rfl⟩, rfl, hmay⟩
      exact ⟨hmay, rfl⟩

theorem readyWrite_no_record {s : State} (h : s.plan.station = none ∨ s.report.queue = []) :
    s.readyWrite .record = none := by
  rcases h with h | h
  · simp only [State.readyWrite, h]
  · cases hst : s.plan.station <;> simp only [State.readyWrite, hst, h]

theorem readyWrite_of_result {s : State} {k : Take} {w : Word} (hk : s.plan.take = some k) (hstep : k.step = .finished w) :
    s.readyWrite .result = some (resultWrite (s.postWord k.slot) w) := by
  obtain ⟨slot, step, post, body⟩ := k
  cases hstep
  simp only [State.readyWrite, hk]

/-- R176: a result word is due while a take stands that is ended but for it. -/
theorem resultDue_iff (s : State) : s.resultDue = true ↔ ∃ k w, s.plan.take = some k ∧ k.step = .finished w := by
  cases hk : s.plan.take with
  | none => simp [State.resultDue, hk]
  | some k =>
    obtain ⟨slot, step, post, body⟩ := k
    cases step <;> simp [State.resultDue, hk]

theorem readyWrite_no_result {s : State} (h : s.resultDue = false) : s.readyWrite .result = none := by
  cases hq : s.readyWrite .result with
  | none => rfl
  | some q => exact absurd ((resultDue_iff s).2 (readyWrite_result hq)) (by simp [h])

/-- Settles O3: `ownStep_iff` says when the own step is possible, the `readyWrite` lemmas what enters. -/
theorem idleStepIsAnOwnStepOrOneCycle : Obligations.IdleStepIsAnOwnStepOrOneCycle := by
  unfold Obligations.IdleStepIsAnOwnStepOrOneCycle
  refine ⟨fun s hpending => ⟨step_cycle hpending, fun c => step_own hpending⟩, ?_⟩
  intro s row
  have hrow : ∀ l, row l = l.entryRow := fun l => by cases l <;> rfl
  refine ⟨fun c => ?_, fun _ _ _ => rfl, fun _ => rfl, fun st r rs => readyWrite_of_record, readyWrite_no_record,
    fun k w hk hstep => readyWrite_of_result hk hstep, readyWrite_no_result⟩
  simp only [hrow]
  exact ownStep_iff s c

end Sys2Proof.Machine
end

section
/-! PROOFS. The Downstream Port (06): grants (O26), responses (O29), and the write of a drain (O27). -/

namespace Sys2Proof.Machine

/-! ### Grants (R121, R124 to R126) -/

theorem requests_read_iff (s : State) : s.requests .read = true ↔ s.reads.ready ≠ [] := by
  simp [State.requests]

theorem requests_drain_iff (s : State) :
    s.requests .drain = true ↔ s.pwq.entries ≠ [] ∧ ∀ e ∈ s.pwq.entries, e.state = .waiting := by
  simp [State.requests, State.drainRequest]

theorem requests_fetch_iff (s : State) : s.requests .fetch = true ↔ ∃ line, s.down.fetch = .ready line := by
  cases h : s.down.fetch <;> simp [State.requests, h]

theorem grantRead_oldest {s : State} {r : PortRead} {rest : List PortRead} (h : s.reads.ready = r :: rest) :
    s.grantRead = { s with
      reads := { s.reads with ready := rest, out := s.reads.out ++ [r] }
      down := { s.down with issued := s.down.issued ++ [.read (.master r.master) r.addr.toNat r.beats] } } := by
  simp only [State.grantRead, h]
  rfl

theorem grantDrain_head {s : State} {e : Entry} {rest : List Entry} (h : s.pwq.entries = e :: rest) :
    s.grantDrain = { s with
      pwq := { s.pwq with entries := { e with state := .draining } :: rest }
      down := { s.down with issued := s.down.issued ++ [e.drainTxn] } } := by
  simp only [State.grantDrain, h]
  rfl

theorem grantFetch_line {s : State} {line : Fin 8} {k : Take} (h : s.down.fetch = .ready line)
    (hk : s.plan.take = some k) :
    s.grantFetch = { s with down := { s.down with
      fetch := .outstanding line
      issued := s.down.issued ++ [.read .fetch (s.planLine k.slot line) 8] } } := by
  simp only [State.grantFetch, h, hk]
  rfl

/-- Settles O26, class by class. -/
theorem grantIssuesOneTransaction : Obligations.GrantIssuesOneTransaction := by
  unfold Obligations.GrantIssuesOneTransaction
  intro s
  exact ⟨requests_read_iff s, requests_drain_iff s, requests_fetch_iff s, fun r rest => grantRead_oldest,
    fun e rest => grantDrain_head, fun line k h hk => grantFetch_line h hk⟩

/-! ### Responses (R122, R132) -/

/-- The one read of a master that is outstanding is found, and it alone leaves. -/
theorem out_of_split {m : Master} {r : PortRead} {a b : List PortRead} (hr : r.master = m)
    (hothers : ∀ x ∈ a ++ b, x.master ≠ m) :
    (a ++ r :: b).find? (·.master == m) = some r ∧ (a ++ r :: b).filter (·.master != m) = a ++ b := by
  rw [List.forall_mem_append] at hothers
  obtain ⟨ha, hb⟩ := hothers
  have hkept : ∀ {l : List PortRead}, (∀ x ∈ l, x.master ≠ m) → l.filter (·.master != m) = l := fun hl =>
    List.filter_eq_self.2 fun x hx => bne_iff_ne.2 (hl x hx)
  refine ⟨List.find?_eq_some_iff_append.2 ⟨beq_iff_eq.2 hr, a, b, rfl, fun x hx => ?_⟩, ?_⟩
  · simpa using ha x hx
  · rw [List.filter_append, hkept ha, List.filter_cons_of_neg (by simp [hr]), hkept hb]

theorem readResponds_none {s : State} {m : Master} (st : DownStatus) (d : List Word)
    (h : ∀ r ∈ s.reads.out, r.master ≠ m) : s.readResponds m st d = s := by
  have hfind : s.reads.out.find? (·.master == m) = none :=
    List.find?_eq_none.2 fun r hr => by simpa using h r hr
  simp only [State.readResponds, hfind]

theorem fetchResponds_none {s : State} (st : DownStatus) (d : List Word)
    (h : ∀ line, s.down.fetch ≠ .outstanding line) : s.fetchResponds st d = s := by
  unfold State.fetchResponds
  split
  · next line _ hf _ => exact absurd hf (h line)
  · rfl

theorem drainResponds_none {s : State} (st : DownStatus) (h : ∀ e ∈ s.pwq.entries.head?, e.state = .waiting) :
    s.drainResponds st = s := by
  unfold State.drainResponds
  split
  · rfl
  · next e rest hq =>
    have hwaiting : e.state = .waiting := h e (by rw [hq]; rfl)
    rw [if_neg (by rw [hwaiting]; exact EntryState.noConfusion)]

/-- Settles O29: `out_of_split` finds the read that is answered, the `none` lemmas say what is ignored. -/
theorem responsesFindTheirTransaction : Obligations.ResponsesFindTheirTransaction := by
  unfold Obligations.ResponsesFindTheirTransaction
  refine ⟨?_, fun s st data => ⟨fun m h => ?_, fun h => ?_, fun h => ?_⟩⟩
  · intro s m data r a b hout hr hothers u
    obtain ⟨hfind, hfilter⟩ := out_of_split hr hothers
    rw [← hout] at hfind hfilter
    constructor <;> refine exec_of_effect ?_ <;>
    · simp only [effect, State.readResponds, hfind, hfilter]
      rfl
  · exact ⟨exec_of_effect (readResponds_none st data h), exec_of_effect (readResponds_none st data h)⟩
  · exact ⟨exec_of_effect (fetchResponds_none st data h), exec_of_effect (fetchResponds_none st data h)⟩
  · exact ⟨exec_of_effect (drainResponds_none st h), exec_of_effect (drainResponds_none .ok h),
      exec_of_effect (drainResponds_none .fault h)⟩

/-! ### The write of a drain (R116, R195) -/

section
variable {e : Entry}

/-- A run of list items, taken by index. -/
theorem any_drop_take {α : Type} (p : α → Bool) (l : List α) (m n : Nat) :
    ((l.drop m).take n).any p = true ↔ ∃ j < n, ∃ x, l[m + j]? = some x ∧ p x = true := by
  rw [List.any_eq_true]
  constructor
  · rintro ⟨x, hx, hp⟩
    obtain ⟨j, hj⟩ := List.mem_iff_getElem?.1 hx
    rw [List.getElem?_take, Option.ite_none_right_eq_some, List.getElem?_drop] at hj
    obtain ⟨hlt, hj⟩ := hj
    exact ⟨j, hlt, x, hj, hp⟩
  · rintro ⟨j, hlt, x, hj, hp⟩
    refine ⟨x, List.mem_iff_getElem?.2 ⟨j, ?_⟩, hp⟩
    rwa [List.getElem?_take_of_lt hlt, List.getElem?_drop]

theorem usesWord_iff (i : Nat) : e.usesWord i = true ↔ ∃ j < 4, ∃ b, e.bytes[4 * i + j]? = some (some b) := by
  simp only [Entry.usesWord, any_drop_take, Vector.getElem?_toList, Option.isSome_iff_exists]
  exact exists_congr fun j => and_congr_right fun _ =>
    ⟨fun ⟨x, h, b, hb⟩ => ⟨b, hb ▸ h⟩, fun ⟨b, h⟩ => ⟨some b, h, b, rfl⟩⟩

theorem mem_usedWords (i : Nat) : i ∈ e.usedWords ↔ i < 8 ∧ e.usesWord i = true := by
  simp [Entry.usedWords]

theorem usedWords_sorted : e.usedWords.Pairwise (· < ·) := List.pairwise_lt_range.filter _

/-- The first item of a rising list is its least. -/
theorem head?_of_least {l : List Nat} {lo : Nat} (hl : l.Pairwise (· < ·)) (hmem : lo ∈ l) (hle : ∀ i ∈ l, lo ≤ i) :
    l.head? = some lo := by
  cases l with
  | nil => cases hmem
  | cons a l =>
    rcases List.mem_cons.1 hmem with rfl | h
    · rfl
    · have hlt : a < lo := (List.pairwise_cons.1 hl).1 lo h
      exact absurd (hle a List.mem_cons_self) (by omega)

/-- The last item of a rising list is its greatest. -/
theorem getLast?_of_greatest {l : List Nat} {hi : Nat} (hl : l.Pairwise (· < ·)) (hmem : hi ∈ l)
    (hle : ∀ i ∈ l, i ≤ hi) : l.getLast? = some hi := by
  induction l using List.reverseRecOn with
  | nil => cases hmem
  | append_singleton l a _ =>
    rw [List.getLast?_concat]
    rcases List.mem_append.1 hmem with h | h
    · have hlt : hi < a := (List.pairwise_append.1 hl).2.2 hi h a (List.mem_singleton.2 rfl)
      have hge : a ≤ hi := hle a (List.mem_append_right _ (List.mem_singleton.2 rfl))
      omega
    · rw [List.mem_singleton.1 h]

theorem drainTxn_span {lo hi : Nat} (hlo : lo ∈ e.usedWords) (hhi : hi ∈ e.usedWords)
    (hall : ∀ i ∈ e.usedWords, lo ≤ i ∧ i ≤ hi) :
    e.drainTxn = .write (e.line + 4 * lo) ((List.range (hi - lo + 1)).map fun i => e.beat (lo + i)) := by
  have hfirst : e.usedWords.head? = some lo := head?_of_least usedWords_sorted hlo fun i hi => (hall i hi).1
  have hlast : e.usedWords.getLast? = some hi := getLast?_of_greatest usedWords_sorted hhi fun i hi => (hall i hi).2
  simp only [Entry.drainTxn, hfirst, hlast, Option.getD_some]

/-- Enable j of four, of which the highest is written first. -/
theorem ofBool_append_getLsbD (b : Nat → Bool) {j : Nat} (hj : j < 4) :
    (BitVec.ofBool (b 3) ++ BitVec.ofBool (b 2) ++ BitVec.ofBool (b 1) ++ BitVec.ofBool (b 0)).getLsbD j = b j := by
  simp only [BitVec.getLsbD_append]
  interval_cases j <;> simp

/-- Byte j of four, of which the highest is written first. -/
theorem append_extractLsb' (b : Nat → Byte) {j : Nat} (hj : j < 4) :
    (b 3 ++ b 2 ++ b 1 ++ b 0).extractLsb' (8 * j) 8 = b j := by
  ext k hk
  simp only [BitVec.getElem_extractLsb', BitVec.getLsbD_append]
  interval_cases j <;> grind

theorem beat_be (w : Nat) {j : Nat} (hj : j < 4) :
    (e.beat w).be.getLsbD j = ((e.bytes[4 * w + j]?).join).isSome := by
  rw [← Vector.getElem?_toList]
  exact ofBool_append_getLsbD (fun j => ((e.bytes.toList[4 * w + j]?).join).isSome) hj

theorem beat_data (w : Nat) {j : Nat} (hj : j < 4) :
    (e.beat w).data.extractLsb' (8 * j) 8 = ((e.bytes[4 * w + j]?).join).getD 0 := by
  rw [← Vector.getElem?_toList]
  exact append_extractLsb' (fun j => ((e.bytes.toList[4 * w + j]?).join).getD 0) hj

end

/-- Settles O27: `drainTxn_span` gives the beats, `beat_be` and `beat_data` say what each carries. -/
theorem drainSpansTheEnabledWords : Obligations.DrainSpansTheEnabledWords := by
  unfold Obligations.DrainSpansTheEnabledWords
  intro e lo hi hle hlt used hlo hhi hall
  have hmem : ∀ i, i ∈ e.usedWords ↔ i < 8 ∧ used i := fun i => by rw [mem_usedWords, usesWord_iff]
  refine ⟨_, drainTxn_span ((hmem lo).2 ⟨by omega, hlo⟩) ((hmem hi).2 ⟨hlt, hhi⟩) fun i h => hall i ((hmem i).1 h).2,
    by rw [List.length_map, List.length_range], fun i b hb j hj => ?_⟩
  rw [List.getElem?_map, Option.map_eq_some_iff] at hb
  obtain ⟨i', hi', rfl⟩ := hb
  obtain ⟨_, rfl⟩ := List.getElem?_eq_some_iff.1 hi'
  rw [List.getElem_range]
  refine ⟨?_, beat_data _ hj⟩
  rw [beat_be _ hj, Option.isSome_iff_exists]
  simp [Option.join_eq_some_iff]

end Sys2Proof.Machine
end

section
/-! PROOFS. The levels that follow the state (03, 05, 08, 10): what `refresh` and `conclude` move (O4). -/

namespace Sys2Proof.Machine

section
variable {s : State}

/-! ### The waiting of the Report Writer side (R113) -/

/-- Whether the Report Writer side waits with a ready list in place of its own. -/
def State.waitsWith (s : State) (ready : List ReadyLine) : Bool :=
  decide (ready ≠ [] ∧ (s.report.waits = true
    ∨ s.pwq.free < State.readyNeed { s with report := { s.report with ready := ready } }))

theorem noteWait_eq (s : State) : s.noteWait = s.withLines s.report.ready (s.waitsWith s.report.ready) := by
  have hwaits : s.noteWait.report.waits = s.waitsWith s.report.ready := by
    rw [Bool.eq_iff_iff, noteWait_waits, State.waitsWith, decide_eq_true_iff]
  calc s.noteWait = s.withLines s.report.ready s.noteWait.report.waits := rfl
    _ = _ := by rw [hwaits]

/-- A side noted as waiting goes on waiting (log entry 11), so the note stands when it is taken again. -/
theorem waitsWith_again (s : State) (ready : List ReadyLine) :
    (s.withLines ready (s.waitsWith ready)).waitsWith ready = s.waitsWith ready := by
  rw [Bool.eq_iff_iff]
  simp only [State.waitsWith, decide_eq_true_iff, State.withLines]
  tauto

/-! ### The record in hand (R189) -/

/-- The Report Writer may take its oldest record in hand (R189). -/
def State.MayTakeRecord (s : State) : Prop :=
  ∃ st, s.plan.station = some st ∧ s.report.queue ≠ [] ∧ s.report.lineInHand = none
    ∧ (s.report.produce + 1) % st.capacity ≠ s.report.consume

theorem takeInHand_takes (h : s.MayTakeRecord) :
    s.takeInHand = { s with report := { s.report with ready := s.report.ready ++ [.record] } } := by
  obtain ⟨st, hst, hqueue, hhand, hfull⟩ := h
  simp [State.takeInHand, hst, hqueue, hhand, Report.full, hfull]

theorem takeInHand_stays (h : ¬s.MayTakeRecord) : s.takeInHand = s := by
  unfold State.takeInHand
  split
  · rfl
  · next st hst =>
    refine if_neg fun hmay => h ⟨st, hst, ?_⟩
    simpa [Report.full, and_assoc] using hmay

/-! ### What `refresh` moves -/

/-- The state with its levels brought up to date, the ready list being as given. -/
def State.levelled (s : State) (ready : List ReadyLine) : State :=
  { s with
    report := { s.report with ready := ready, waits := s.waitsWith ready }
    lamp := { s.lamp with
      requested := s.requestNow.1, fromTile := s.requestNow.2
      out := decide (s.lamp.on = true ∧ s.stage.cut.level = false
        ∧ s.lamp.counter < min s.lamp.applied s.lamp.period) } }

theorem lampLevel_eq (s : State) : s.lampLevel = decide (s.lamp.on = true ∧ s.stage.cut.level = false
    ∧ s.lamp.counter < min s.lamp.applied s.lamp.period) := by
  rw [Bool.eq_iff_iff, decide_eq_true_iff]
  simp [State.lampLevel, and_assoc]

theorem refresh_of_ready {ready : List ReadyLine}
    (h : s.takeInHand = { s with report := { s.report with ready := ready } }) : refresh s = s.levelled ready := by
  rw [refresh, h, noteWait_eq, State.driveLamp, lampLevel_eq]
  rfl

theorem refresh_takes (h : s.MayTakeRecord) : refresh s = s.levelled (s.report.ready ++ [.record]) :=
  refresh_of_ready (takeInHand_takes h)

theorem refresh_stays (h : ¬s.MayTakeRecord) : refresh s = s.levelled s.report.ready :=
  refresh_of_ready (takeInHand_stays h)

/-- A line in hand keeps the next record from being taken. -/
theorem not_mayTakeRecord_of_inHand (h : ReadyLine.record ∈ s.report.ready) : ¬s.MayTakeRecord := by
  rintro ⟨_, _, _, hhand, _⟩
  exact absurd rfl (List.find?_eq_none.1 hhand .record h)

theorem levelled_again (s : State) (ready : List ReadyLine) :
    (s.levelled ready).levelled ready = s.levelled ready := by
  have hwaits : (s.levelled ready).waitsWith ready = s.waitsWith ready := waitsWith_again s ready
  calc (s.levelled ready).levelled ready
      = { s.levelled ready with report := { (s.levelled ready).report with
          waits := (s.levelled ready).waitsWith ready } } := rfl
    _ = s.levelled ready := by rw [hwaits]; rfl

theorem refresh_again (s : State) : refresh (refresh s) = refresh s := by
  by_cases h : s.MayTakeRecord
  · have hhand : ¬(s.levelled (s.report.ready ++ [.record])).MayTakeRecord :=
      not_mayTakeRecord_of_inHand (List.mem_append_right _ (List.mem_singleton.2 rfl))
    rw [refresh_takes h, refresh_stays hhand]
    exact levelled_again s _
  · have hstays : ¬(s.levelled s.report.ready).MayTakeRecord := h
    rw [refresh_stays h, refresh_stays hstays]
    exact levelled_again s _

/-! ### The requested duty (Table 8-2) -/

theorem tileDuty_of_asks {t : TileNo} {tile : Tile} {plate : Plate} {x : Exposure} (hc : s.seq.current = some t)
    (ht : s.asm.tiles[t] = some tile) (hp : s.asm.plates[tile.slot] = some plate) (hasks : s.Asks tile)
    (hx : plate.bracket[tile.expIndex]? = some x) : s.tileDuty = some x.duty := by
  have hactive : tile.active = true := by
    rcases hasks with h | h | ⟨h, -⟩ <;> simp [Tile.active, h]
  have hcur := currentTile_some.2 ⟨hc, ht, hp, hactive⟩
  rcases hasks with h | h | ⟨h, hz⟩
  · simp [State.tileDuty, hcur, hx, h]
  · simp [State.tileDuty, hcur, hx, h]
  · simp [State.tileDuty, hcur, hx, h, hz]

theorem tileDuty_of_noneAsks (h : s.NoneAsks) : s.tileDuty = none := by
  cases hcur : s.currentTile with
  | none => simp [State.tileDuty, hcur]
  | some c =>
    obtain ⟨t, tile, plate⟩ := c
    obtain ⟨hc, ht, hp, -⟩ := currentTile_some.1 hcur
    have hasks : ¬s.Asks tile := h t tile plate hc ht hp
    rw [State.Asks, not_or, not_or] at hasks
    obtain ⟨hsettling, hexposing, harmed⟩ := hasks
    unfold State.tileDuty
    rw [hcur]
    dsimp only
    split
    · next hs => exact absurd hs hsettling
    · next hs => exact absurd hs hexposing
    · next hs => exact if_neg fun hz => harmed ⟨hs, hz⟩
    · rfl

/-- Line by line of Table 8-2 (R152). -/
theorem requestNow_lines (s : State) : RequestLines s s.requestNow.1 s.requestNow.2 where
  line1 hcut := by simp [State.requestNow, hcut]
  line2 hcut t tile plate x hc ht hp hasks hx := by
    simp [State.requestNow, hcut, tileDuty_of_asks hc ht hp hasks hx]
  line3 hcut hnone hon st hst := by
    simp [State.requestNow, hcut, tileDuty_of_noneAsks hnone, hon, State.setting, hst]
  line4 hcut hnone hoff := by simp [State.requestNow, hcut, tileDuty_of_noneAsks hnone, hoff]

/-! ### What `conclude` moves (R176) -/

/-- The ready list with a due result word behind it. -/
def State.linesAtEnd (s : State) : List ReadyLine :=
  s.report.ready ++ if s.resultDue = true ∧ ReadyLine.result ∉ s.report.ready then [.result] else []

theorem presentResult_eq (s : State) :
    s.presentResult = { s with report := { s.report with ready := s.linesAtEnd } } := by
  unfold State.presentResult State.linesAtEnd
  by_cases h : s.resultDue = true ∧ ReadyLine.result ∉ s.report.ready
  · rw [if_pos h, if_pos (by simpa using h)]
  · rw [if_neg h, if_neg (by simpa using h), List.append_nil]

theorem conclude_moves (s : State) : conclude s = s.withLines s.linesAtEnd (s.waitsWith s.linesAtEnd) := by
  rw [conclude, presentResult_eq, noteWait_eq]
  rfl

/-- A result word that is presented is not presented again. -/
theorem linesAtEnd_again (s : State) (w : Bool) : (s.withLines s.linesAtEnd w).linesAtEnd = s.linesAtEnd := by
  have hpresent : ¬(s.resultDue = true ∧ ReadyLine.result ∉ s.linesAtEnd) := by
    rintro ⟨hdue, habsent⟩
    refine habsent ?_
    by_cases hmem : ReadyLine.result ∈ s.report.ready
    · exact List.mem_append_left _ hmem
    · exact List.mem_append_right _ (by rw [if_pos ⟨hdue, hmem⟩]; exact List.mem_singleton.2 rfl)
  calc (s.withLines s.linesAtEnd w).linesAtEnd
      = s.linesAtEnd ++ if s.resultDue = true ∧ ReadyLine.result ∉ s.linesAtEnd then [.result] else [] := rfl
    _ = s.linesAtEnd := by rw [if_neg hpresent, List.append_nil]

theorem conclude_again (s : State) : conclude (conclude s) = conclude s := by
  rw [conclude_moves (conclude s), conclude_moves s, linesAtEnd_again, waitsWith_again]
  rfl

end

/-- Settles O4: `refresh_takes` and `refresh_stays` for the levels, `requestNow_lines` for Table 8-2, `conclude_moves` for
the end of a step. -/
theorem refreshMovesLevelsOnly : Obligations.RefreshMovesLevelsOnly := by
  unfold Obligations.RefreshMovesLevelsOnly
  intro s record lines waits
  refine ⟨?_, requestNow_lines s, refresh_again s, conclude_moves s, resultDue_iff s, conclude_again s⟩
  by_cases h : s.MayTakeRecord
  · have hrecord : record = [.record] := if_pos h
    rw [hrecord]
    exact refresh_takes h
  · have hrecord : record = [] := if_neg h
    rw [hrecord, List.append_nil]
    exact refresh_stays h

end Sys2Proof.Machine
end

section
/-! PROOFS. Reset (every chapter's state table): POWER_ON_RESET (O6), and the laws at reset (O60). -/

namespace Sys2Proof.Machine

/-! ### A part without station, take and commands is still -/

/-- A part in which no rule makes anything follow: UNCONFIGURED, the sequencer IDLE, and nothing taken, held or ready. -/
structure State.Still (s : State) : Prop where
  station : s.plan.station = none
  take : s.plan.take = none
  idle : s.seq.current = none
  held : s.port.held = none
  accept : s.down.accept = false
  ready : s.report.ready = []

section
variable {s : State}

theorem State.Still.follows (h : s.Still) (hwaits : s.report.waits = false) : s.follows = [] := by
  refine List.eq_nil_iff_forall_not_mem.2 fun c hc => ?_
  rw [mem_follows_iff, waitingLine_quiet hwaits] at hc
  rcases hc with hrecord | ⟨-, ⟨-, hdismiss⟩ | ⟨-, harm, -⟩ | ⟨-, haccept, -⟩ | ⟨-, hheld⟩ | hline⟩
  · simp [State.recordStep, h.take] at hrecord
  · simp [State.dismissReady, h.take] at hdismiss
  · exact ((mayArm_iff s).1 harm).2.1 h.station
  · simp [h.accept] at haccept
  · simp [State.heldReady, h.held] at hheld
  · cases hline

theorem State.Still.waitsWith (h : s.Still) : s.waitsWith s.report.ready = false := by
  simp [State.waitsWith, h.ready]

theorem State.Still.requestNow (h : s.Still) (hon : s.lamp.on = false) : s.requestNow = (0, false) := by
  simp [State.requestNow, State.tileDuty, currentTile_idle h.idle, hon]

/-- The levels of a still part whose lamp is OFF are low, whatever CUT is. -/
theorem State.Still.refresh (h : s.Still) (hon : s.lamp.on = false) :
    refresh s = { s with
      report := { s.report with waits := false }
      lamp := { s.lamp with requested := 0, fromTile := false, out := false } } := by
  have hstays : ¬s.MayTakeRecord := by
    rintro ⟨st, hst, -⟩
    rw [h.station] at hst
    cases hst
  rw [refresh_stays hstays, State.levelled, h.waitsWith, h.requestNow hon]
  simp [hon]

theorem State.Still.conclude (h : s.Still) : conclude s = { s with report := { s.report with waits := false } } := by
  have hlines : s.linesAtEnd = s.report.ready := by
    simp [State.linesAtEnd, State.resultDue, h.take]
  rw [conclude_moves, hlines, h.waitsWith]
  rfl

end

/-! ### POWER_ON_RESET (R135, R168) -/

theorem powerOnReset_still (lines : StageLines) (straps : BitVec 12) (s : State) :
    (powerOnReset lines straps s).Still := ⟨rfl, rfl, rfl, rfl, rfl, rfl⟩

theorem refresh_powerOnReset (lines : StageLines) (straps : BitVec 12) (s : State) :
    refresh (powerOnReset lines straps s) = powerOnReset lines straps s :=
  (powerOnReset_still lines straps s).refresh rfl

theorem finish_powerOnReset (lines : StageLines) (straps : BitVec 12) (s : State) :
    finish (powerOnReset lines straps s) = powerOnReset lines straps s := by
  have hstill := powerOnReset_still lines straps s
  rw [finish_of_done, refresh_powerOnReset]
  · exact hstill.conclude
  · rw [refresh_powerOnReset]
    exact hstill.follows rfl

/-- Settles O6: the reset column stands in `State.resetWith`, and nothing follows it (`finish_powerOnReset`). -/
theorem resetAndPowerOnReset : Obligations.ResetAndPowerOnReset := by
  unfold Obligations.ResetAndPowerOnReset
  constructor
  · intro s
    have hflags : ∀ m : Master, s.port.outstanding[m] = false := fun m => Vector.getElem_replicate _
    have hplates : ∀ p : SlotNo, s.asm.plates[p] = none := fun p => Vector.getElem_replicate _
    have htiles : ∀ t : TileNo, s.asm.tiles[t] = none := fun t => Vector.getElem_replicate _
    have hholds : ∀ h : HoldNo, s.hold.pool[h] = none := fun h => Vector.getElem_replicate _
    have hposted : ∀ k : PlanSlot, s.plan.posted[k] = false := fun k => Vector.getElem_replicate _
    exact ⟨hflags, rfl, rfl, rfl, rfl, rfl, rfl,
      rfl, rfl, rfl, rfl, rfl, rfl, rfl,
      hplates, htiles, rfl, hholds, rfl,
      rfl, rfl, rfl, rfl, rfl, rfl,
      rfl, rfl, rfl, rfl, rfl, rfl, rfl, rfl,
      hposted, rfl, rfl, rfl, rfl, rfl, rfl,
      rfl, rfl, rfl, rfl, rfl, rfl, rfl, rfl, rfl, rfl⟩
  · intro lines straps s
    have hexec : exec (.powerOnReset lines straps) s = .next (finish (powerOnReset lines straps s)) := exec_of_effect rfl
    rw [hexec, finish_powerOnReset]
    rfl

/-! ### The laws at reset -/

theorem lampLaw_reset : LampLaw State.reset where
  request := requestNow_lines State.reset
  out := by simp [State.reset, State.resetWith]
  stopped _ := rfl

/-- Without station there is no ring: the part's indices are 0 and nothing is ready. -/
theorem ringLaw_reset : RingLaw State.reset where
  irq := by simp [State.reset, State.resetWith]
  absent _ _ h := nomatch h
  indices _ h := nomatch h
  order _ h := nomatch h
  carried _ h := nomatch h
  single := Nat.zero_le 1
  record _ h := nomatch h
  written _ h := nomatch h
  newRing _ h := nomatch h
  result h := nomatch h

/-- Settles O60: the laws that POWER_ON_RESET brings about, at the part it brings about. -/
theorem resetHasTheLaws : Obligations.ResetHasTheLaws := by
  unfold Obligations.ResetHasTheLaws
  have hassembly : AssemblyLaw State.reset := reset_law _ 0 State.reset
  exact ⟨lampLaw_reset, pwqLaw_of_empty rfl, reset_reads _ 0 State.reset, hassembly, reset_holds _ 0 State.reset,
    reset_reservation _ 0 State.reset, ringLaw_reset⟩

end Sys2Proof.Machine
end

section
/-! PROOFS. STATION (9.5): an accepted record (O33). -/

namespace Sys2Proof.Machine

/-! ### Line events leave the plan side alone -/

section
variable {s : State}

theorem decodeAxis_plan (s : State) (ax : Axis) : (s.decodeAxis ax).plan = s.plan := by
  have hcheck : ∀ u : State, (u.checkTolerance ax).plan = u.plan := fun u => by
    unfold State.checkTolerance
    split <;> simp
  unfold State.decodeAxis
  dsimp only
  split
  · rfl
  · simp [hcheck]
  · simp [hcheck]
  · split <;> simp

theorem homeEdge_plan (s : State) (ax : Axis) : (homeEdge ax s).plan = s.plan := by
  cases h : (s.stage.home ax).level with
  | true => simp [homeEdge, h]
  | false =>
    simp only [homeEdge, h, Bool.false_eq_true, if_false, abort_frame]
    split <;> rfl

theorem lineEvent_plan (c : Instr) (s : State) : (lineEvent c s).plan = s.plan := by
  unfold lineEvent
  split
  · exact decodeAxis_plan _ _
  · exact decodeAxis_plan _ _
  · exact homeEdge_plan s _
  · unfold fallingHomeEdge
    split <;> rfl
  · unfold cutRise
    split <;> simp
  · unfold cutFall
    split <;> simp
  · rfl

/-! ### The filters that complete (R135) -/

/-- The events of the filters' completions are the line events, whose effects are what `effect` gives. -/
theorem lineEvent_eq_effect {g : Stage} {depth : Nat} {c : Instr} (h : c ∈ g.dueEvents depth) (s : State) :
    lineEvent c s = effect c s := by
  have haxis : ∀ {ax a b}, c ∈ axisEvents depth ax a b → lineEvent c s = effect c s := fun hc => by
    rcases (mem_axisEvents ..).1 hc with ⟨rfl, -⟩ | ⟨rfl, -⟩ | ⟨rfl, -⟩ <;> rfl
  have hhome : ∀ {ax f}, c ∈ homeEvents depth ax f → lineEvent c s = effect c s := fun hc => by
    rcases (mem_homeEvents ..).1 hc with ⟨rfl, -⟩ | ⟨rfl, -⟩ <;> rfl
  have hcut : c ∈ cutEvents depth g.cut → lineEvent c s = effect c s := fun hc => by
    rcases (mem_cutEvents ..).1 hc with ⟨rfl, -⟩ | ⟨rfl, -⟩ <;> rfl
  simp only [dueEvents_eq, List.mem_append] at h
  obtain (((hc | hc) | hc) | hc) | hc := h
  · exact haxis hc
  · exact haxis hc
  · exact hhome hc
  · exact hhome hc
  · exact hcut hc

theorem completeFilters_eq (s : State) : ∃ edges : List Instr, edges.Perm (s.stage.dueEvents s.filterDepth)
    ∧ s.completeFilters = edges.foldl (fun v c => refresh (effect c v)) (s.draw edges.length) := by
  have hperm := freeOrder_perm s.clock.draws (s.stage.dueEvents s.filterDepth)
  refine ⟨_, hperm, ?_⟩
  rw [State.completeFilters, hperm.length_eq]
  exact List.foldl_ext _ _ _ fun v c hc => congrArg refresh (lineEvent_eq_effect (hperm.mem_iff.1 hc) v)

theorem completeFilters_plan (s : State) : s.completeFilters.plan = s.plan :=
  foldl_keeps State.plan _ (fun u c => by simp [lineEvent_plan]) _ _

/-! ### Acceptance (R178) -/

theorem lampStation_idle {st : Station} (hst : s.plan.station = some st) (hidle : s.seq.current = none) :
    s.lampStation st = { s with lamp := { s.lamp with
      period := if s.lamp.on = true then s.lamp.period else st.pwmPeriod
      idleTimer := 0
      zone := zoneNow st s.lamp.zone s.lamp.heat } } := by
  simp only [State.lampStation, State.judgeZone, hst, hidle]

theorem restartDwell_of_station {st : Station} (hst : s.plan.station = some st) :
    s.restartDwell = { s with stage := { s.stage with dwell := if st.dwell = 0 then none else some 0 } } := by
  simp only [State.restartDwell, State.dwellTime, hst, Option.map_some, Option.some.injEq]

/-- Every block has taken the settings of an accepted STATION record; the filters have not completed yet. -/
def State.stationed (st : Station) (s : State) : State :=
  { s with
    plan := { s.plan with station := some st }
    clock := { s.clock with us := 0, ms := 0, lampDiv := 0 }
    stage := { s.stage with watched := none, dwell := if st.dwell = 0 then none else some 0 }
    seq := { s.seq with captureHeld := s.port.held.any (·.req.master == st.captureMaster) }
    pwq := { s.pwq with entries := s.pwq.entries.map Entry.toOldRing }
    report := { s.report with
      produce := 0, drained := 0, consume := 0, irq := false
      ready := s.report.ready.map ReadyLine.toOldRing ++ [.newHeader st.reportBase] }
    lamp := { s.lamp with
      period := if s.lamp.on = true then s.lamp.period else st.pwmPeriod
      idleTimer := 0
      zone := zoneNow st s.lamp.zone s.lamp.heat } }

theorem acceptStation_idle (st : Station) (hidle : s.seq.current = none) :
    s.acceptStation st = (s.stationed st).completeFilters := by
  refine congrArg State.completeFilters ?_
  rw [lampStation_idle rfl (by exact hidle), restartDwell_of_station (st := st) rfl]
  rfl

theorem stationRecord_accepted {k : Take} (hk : s.fetched .station = some k)
    (hcheck : firstFailing (stationChecks k.body) = none) (hapart : s.stationApart (stationOf k.body) = true)
    (hfree : ∀ p : SlotNo, s.asm.plates[p] = none) (hqueue : s.report.queue = []) :
    stationRecord s = (s.acceptStation (stationOf k.body)).result k .accepted 0 := by
  have hidle : s.idleForStation = true := by
    simp only [State.idleForStation, hqueue, List.isEmpty_nil, Bool.and_true, List.all_eq_true]
    intro x hx
    obtain ⟨i, hi, rfl⟩ := List.getElem_of_mem hx
    simpa using hfree ⟨i, by simpa using hi⟩
  simp [stationRecord, hk, hcheck, hapart, hidle]

end

/-- Settles O33: `acceptStation_idle` for the settings, `completeFilters_eq` for the filters that complete last. -/
theorem stationRecordIsAccepted : Obligations.StationRecordIsAccepted := by
  unfold Obligations.StationRecordIsAccepted
  intro s k hk hcheck st hapart hfree hqueue hidle old a
  have ha : a = s.stationed st := by
    have hold : old = ReadyLine.toOldRing := funext fun l => by cases l <;> rfl
    simp only [a, hold]
    rfl
  obtain ⟨htake, -, hkind⟩ := fetched_some hk
  obtain ⟨edges, hperm, hfilters⟩ := completeFilters_eq (s.stationed st)
  refine ⟨edges, hperm, exec_of_effect ((stationRecord_accepted hk hcheck hapart hfree hqueue).trans ?_)⟩
  have hkeeps : (s.stationed st).completeFilters.plan.take = some k := by
    rw [completeFilters_plan]
    exact htake
  rw [acceptStation_idle st hidle, result_eq .accepted 0 hkeeps, kindField_of_kind hkind, hfilters, ha]
  rfl

end Sys2Proof.Machine
end

section
/-! PROOFS. The arbiter's choice (06 6.3): grants in FIXED and in ROTATE mode (O25). -/

namespace Sys2Proof.Machine

section
variable {s : State}

/-! ### The class that a grant goes to (R128, R129) -/

/-- The cyclic order READ, DRAIN, FETCH from a class (R129). -/
def ArbClass.cycle (c : ArbClass) : List ArbClass := [c, c.next, c.next.next]

theorem firstFrom_eq_find (s : State) (c : ArbClass) : s.firstFrom c = c.cycle.find? s.requests := by
  unfold State.firstFrom
  split_ifs <;> simp [ArbClass.cycle, *]

theorem grantClass_fixed (hmode : s.arbMode = .fixed) :
    s.grantClass =
      if 12 ≤ s.pwq.entries.length ∧ s.requests .drain = true then some .drain
      else if s.requests .read = true then some .read
      else if s.requests .drain = true then some .drain
      else if s.requests .fetch = true then some .fetch
      else none := by
  simp only [State.grantClass, hmode, Bool.and_eq_true, decide_eq_true_eq]
  rfl

theorem grantClass_rotate (hmode : s.arbMode = .rotate) : s.grantClass = s.firstFrom s.down.rotation := by
  simp only [State.grantClass, hmode]

/-! ### The sign that the port can accept (R127) -/

/-- The sign stands until a request is granted (log entry 19). -/
theorem arbiterGrant_of_none (h : s.grantClass = none) :
    arbiterGrant s = { s with down := { s.down with accept := true } } := by
  simp only [arbiterGrant, h]

/-- R128: a grant in FIXED mode leaves the rotation pointer alone. -/
theorem arbiterGrant_fixed {c : ArbClass} (hmode : s.arbMode = .fixed) (h : s.grantClass = some c) :
    arbiterGrant s = State.grant c { s with down := { s.down with accept := false } } := by
  simp only [arbiterGrant, h, State.moveRotation, hmode]

/-- R129: a grant in ROTATE mode moves the rotation pointer to the class after the one granted. -/
theorem arbiterGrant_rotate {c : ArbClass} (hmode : s.arbMode = .rotate) (h : s.grantClass = some c) :
    arbiterGrant s = State.grant c { s with down := { s.down with accept := false, rotation := c.next } } := by
  simp only [arbiterGrant, h, State.moveRotation, hmode]

theorem grant_rotation (s : State) (c : ArbClass) : (s.grant c).down.rotation = s.down.rotation := by
  cases c <;> simp only [State.grant, State.grantRead, State.grantDrain, State.grantFetch] <;> split <;> rfl

end

/-- Settles O25: `grantClass_fixed` and `grantClass_rotate` say which class is chosen, `arbiterGrant_fixed` and
`arbiterGrant_rotate` what a grant to it does. -/
theorem grantsFollowTheMode : Obligations.GrantsFollowTheMode := by
  unfold Obligations.GrantsFollowTheMode
  refine ⟨fun s hmode => ⟨exec_of_effect ?_, grant_rotation s⟩, fun s c hmode hpointer => ?_⟩
  · have hclass := grantClass_fixed hmode
    split_ifs at hclass ⊢
    case neg => exact arbiterGrant_of_none hclass
    all_goals exact arbiterGrant_fixed hmode hclass
  · intro order after
    have horder : order = c.cycle := by cases c <;> rfl
    have hafter : after = ArbClass.next := funext fun g => by cases g <;> rfl
    have hclass : s.grantClass = order.find? s.requests := by
      rw [grantClass_rotate hmode, hpointer, firstFrom_eq_find, horder]
    refine exec_of_effect ?_
    rw [hafter]
    cases hfound : order.find? s.requests with
    | none => exact arbiterGrant_of_none (hclass.trans hfound)
    | some g => exact arbiterGrant_rotate hmode (hclass.trans hfound)

end Sys2Proof.Machine
end

section
/-! PROOFS. The take's line reads (06 6.5, 09 9.3): what the response to one leads to (O30). -/

namespace Sys2Proof.Machine

section
variable {s : State} {k : Take} {line : Fin 8} {data : List Word}

theorem lineOfWords_eq (h : data.length = 8) : lineOfWords data = data := by
  refine List.ext_getElem (by simp [lineOfWords, h]) fun i _ hi => ?_
  simp [lineOfWords, List.getElem?_eq_getElem hi]

theorem kindField_eq_mod (k : Take) : k.kindField = (k.post.getD 0).toNat % 256 := by
  simp [Take.kindField, bits]

/-- The outstanding line read has been answered. -/
def State.lineAnswered (s : State) : State := { s with down := { s.down with fetch := .idle } }

/-! ### The response finds its take (R122, R133) -/

/-- R174: a FAULT ends the take, whatever words it brings. -/
theorem fetchResponds_fault (data : List Word) (hline : s.down.fetch = .outstanding line)
    (hk : s.plan.take = some k) : s.fetchResponds .fault data = s.lineAnswered.result k .fetchFault 0 := by
  simp only [State.fetchResponds, hline, hk, State.lineAnswered]

theorem fetchResponds_post (data : List Word) (hline : s.down.fetch = .outstanding line)
    (hk : s.plan.take = some k) (h7 : line = 7) : s.fetchResponds .ok data = s.lineAnswered.postRead k data := by
  simp only [State.fetchResponds, hline, hk, if_pos h7, State.lineAnswered]

theorem fetchResponds_record (data : List Word) (hline : s.down.fetch = .outstanding line)
    (hk : s.plan.take = some k) (h7 : line ≠ 7) : s.fetchResponds .ok data = s.lineAnswered.lineRead k line data := by
  simp only [State.fetchResponds, hline, hk, if_neg h7, State.lineAnswered]

/-! ### Line 7 decides the kind (R172, R175) -/

theorem postRead_kind (hlen : data.length = 8) (hkind : kindOf (data.getD 7 0) ≠ none) :
    s.postRead k data =
      (s.setTake { k with post := some (data.getD 7 0) }).presentFetch k.slot 0 := by
  obtain ⟨kind, hkind⟩ := Option.ne_none_iff_exists'.1 hkind
  simp only [State.postRead, lineOfWords_eq hlen, Take.kind, Option.bind_some, hkind]

theorem postRead_badKind (hlen : data.length = 8) (hkind : kindOf (data.getD 7 0) = none) :
    s.postRead k data = (s.setTake { k with post := some (data.getD 7 0) }).result
      { k with post := some (data.getD 7 0) } .badKind 0 := by
  simp only [State.postRead, lineOfWords_eq hlen, Take.kind, Option.bind_some, hkind]

/-! ### The record lines (R172, Table 9-2) -/

theorem lineRead_next {kind : Kind} (hlen : data.length = 8) (hkind : k.kind = some kind)
    (hmore : line.val + 1 < kind.lines) :
    s.lineRead k line data =
      (s.setTake { k with body := k.body ++ data }).presentFetch k.slot (line + 1) := by
  have hkind' : Take.kind { k with body := k.body ++ data } = some kind := hkind
  simp only [State.lineRead, lineOfWords_eq hlen, hkind', Option.map_some, Option.getD_some, if_pos hmore]

theorem lineRead_last {kind : Kind} (hlen : data.length = 8) (hkind : k.kind = some kind)
    (hlast : kind.lines ≤ line.val + 1) :
    s.lineRead k line data = s.setTake { k with body := k.body ++ data, step := .fetched } := by
  have hkind' : Take.kind { k with body := k.body ++ data } = some kind := hkind
  simp only [State.lineRead, lineOfWords_eq hlen, hkind', Option.map_some, Option.getD_some,
    if_neg (Nat.not_lt.2 hlast)]

end

/-- Settles O30: the response finds its take, then line 7 by `postRead_kind` and `postRead_badKind`, a record line by
`lineRead_next` and `lineRead_last`. -/
theorem fetchResponseMovesTheTake : Obligations.FetchResponseMovesTheTake := by
  unfold Obligations.FetchResponseMovesTheTake
  intro s k line data hline hk post a body read
  refine ⟨exec_of_effect ?fault, fun hlen h7 hkind => exec_of_effect ?kind,
    fun hlen h7 hkind => exec_of_effect ?badKind, fun kind hlen hkind h7 =>
      ⟨fun hmore => exec_of_effect ?next, fun hlast => exec_of_effect ?last⟩⟩
  case fault =>
    rw [← kindField_eq_mod]
    exact (fetchResponds_fault data hline hk).trans (result_eq .fetchFault 0 hk)
  case kind =>
    exact (fetchResponds_post data hline hk h7).trans ((postRead_kind hlen hkind).trans (presentFetch_eq _ _ _))
  case badKind =>
    refine (fetchResponds_post data hline hk h7).trans ((postRead_badKind hlen hkind).trans ?_)
    rw [result_eq .badKind 0 rfl, kindField_eq_mod]
    rfl
  case next =>
    exact (fetchResponds_record data hline hk h7).trans
      ((lineRead_next hlen hkind hmore).trans (presentFetch_eq _ _ _))
  case last => exact (fetchResponds_record data hline hk h7).trans (lineRead_last hlen hkind hlast)

end Sys2Proof.Machine
end

section
/-! PROOFS. What leaves the Lamp Drive (Table 8-1) alone: the events of the other blocks, and CUT edges. -/

namespace Sys2Proof.Machine

/-! ### Requests and responses (05, 06) -/

theorem presentWrite_lamp (s : State) (w : WriteReq) : (s.presentWrite w).lamp = s.lamp := by
  have hdecode : (s.decodeWrite w).lamp = s.lamp := by
    unfold State.decodeWrite
    split
    · dsimp only
      split <;> simp
    · simp
    · simp
    · simp
    · simp
  unfold State.presentWrite
  split_ifs
  · rfl
  · rfl
  · rfl
  · exact hdecode

theorem presentRead_lamp (s : State) (r : ReadReq) : (s.presentRead r).lamp = s.lamp := by
  have hdecode : (s.decodeRead r).lamp = s.lamp := by
    unfold State.decodeRead
    dsimp only
    split <;> simp
  unfold State.presentRead
  split_ifs
  · rfl
  · rfl
  · exact hdecode

theorem heldWriteEntry_lamp (s : State) : (heldWriteEntry s).lamp = s.lamp := by
  unfold heldWriteEntry
  split
  · rfl
  · dsimp only
    split
    · split <;> simp
    · rfl

theorem drainResponds_lamp (s : State) (st : DownStatus) : (s.drainResponds st).lamp = s.lamp := by
  unfold State.drainResponds
  split
  · rfl
  · split
    · unfold State.retired
      dsimp only
      split <;> simp
    · rfl

theorem readResponds_lamp (s : State) (m : Master) (st : DownStatus) (d : List Word) :
    (s.readResponds m st d).lamp = s.lamp := by
  unfold State.readResponds
  split
  · rfl
  · cases st <;> rfl

theorem fetchResponds_lamp (s : State) (st : DownStatus) (d : List Word) : (s.fetchResponds st d).lamp = s.lamp := by
  unfold State.fetchResponds
  split
  · cases st with
    | fault => rfl
    | ok =>
      simp only [State.postRead, State.lineRead]
      split
      · split <;> rfl
      · split <;> rfl
  · rfl

theorem responds_lamp (s : State) (id : Ident) (st : DownStatus) (d : List Word) : (s.responds id st d).lamp = s.lamp := by
  cases id with
  | master m => exact readResponds_lamp s m st d
  | fetch => exact fetchResponds_lamp s st d
  | drain => exact drainResponds_lamp s st

/-! ### Plan records, but for STATION (09) -/

theorem plateRecord_lamp (s : State) : (plateRecord s).lamp = s.lamp := by
  unfold plateRecord
  repeat' split
  all_goals simp

theorem retakeRecord_lamp (s : State) : (retakeRecord s).lamp = s.lamp := by
  unfold retakeRecord
  repeat' split
  all_goals simp

theorem dismissRecord_lamp (s : State) : (dismissRecord s).lamp = s.lamp := by
  unfold dismissRecord
  repeat' split
  all_goals simp

/-! ### The lines of the Report Writer side (10) -/

theorem recordLineEntry_lamp (s : State) : (recordLineEntry s).lamp = s.lamp := by
  unfold recordLineEntry
  split
  · split <;> rfl
  · rfl

theorem headerLineEntry_lamp (s : State) : (headerLineEntry s).lamp = s.lamp := by
  unfold headerLineEntry
  split
  · split <;> rfl
  · split <;> rfl
  · rfl

theorem resultWordEntry_lamp (s : State) : (resultWordEntry s).lamp = s.lamp := by
  unfold resultWordEntry
  repeat' split
  all_goals simp

/-! ### The sequencer's timers (03) -/

theorem settleExpiry_lamp (s : State) : (settleExpiry s).lamp = s.lamp := by
  unfold settleExpiry
  split
  · split <;> simp
  · rfl

theorem triggerPulseEnd_lamp (s : State) : (triggerPulseEnd s).lamp = s.lamp := by
  unfold triggerPulseEnd
  split <;> rfl

theorem deferredTrigger_lamp (s : State) : (deferredTrigger s).lamp = s.lamp := by
  unfold deferredTrigger
  split
  · rfl
  · split <;> simp

theorem exposureTimerExpiry_lamp (s : State) : (exposureTimerExpiry s).lamp = s.lamp := by
  unfold exposureTimerExpiry
  split
  · rfl
  · split <;> simp

/-! ### The stage and CUT (07, 08 8.7) -/

theorem decodeAxis_lamp (s : State) (ax : Axis) : (s.decodeAxis ax).lamp = s.lamp := by
  have hcheck : ∀ u : State, (u.checkTolerance ax).lamp = u.lamp := fun u => by
    unfold State.checkTolerance
    split <;> simp
  unfold State.decodeAxis
  dsimp only
  split
  · rfl
  · simp [hcheck]
  · simp [hcheck]
  · split <;> simp

theorem homeEdge_lamp (s : State) (ax : Axis) : (homeEdge ax s).lamp = s.lamp := by
  unfold homeEdge
  split
  · rfl
  · dsimp only
    split <;> simp

theorem lineEvent_lamp (c : Instr) (s : State) : (lineEvent c s).lamp = s.lamp := by
  unfold lineEvent
  split
  · exact decodeAxis_lamp _ _
  · exact decodeAxis_lamp _ _
  · exact homeEdge_lamp s _
  · unfold fallingHomeEdge
    split <;> rfl
  · unfold cutRise
    split <;> simp
  · unfold cutFall
    split <;> simp
  · rfl

theorem dwellExpiry_lamp (s : State) : (dwellExpiry s).lamp = s.lamp := by
  unfold dwellExpiry
  split <;> rfl

end Sys2Proof.Machine
end

section
/-! PROOFS. The drive of the lamp (08 8.2 to 8.4): what each effect can do to power, applied duty and period counter. -/

namespace Sys2Proof.Machine

/-- The part of Table 8-1 that latches and turn-ons move: power, applied duty, period counter. -/
structure Drive where
  on : Bool
  applied : Nat
  counter : Nat

def State.drive (s : State) : Drive := { on := s.lamp.on, applied := s.lamp.applied, counter := s.lamp.counter }

theorem drive_of_lamp {s t : State} (h : t.lamp = s.lamp) : t.drive = s.drive := by
  simp only [State.drive, h]

theorem refresh_drive (s : State) : (refresh s).drive = s.drive := by
  simp [State.drive]

theorem conclude_drive (s : State) : (conclude s).drive = s.drive := by
  simp [State.drive]

/-! ### Heat and the 1 ms tick (8.6) -/

/-- R159: judging the zone moves the zone and heat waits alone. -/
theorem judgeZone_drive (s : State) : s.judgeZone.drive = s.drive := by
  unfold State.judgeZone
  split
  · rfl
  dsimp only
  split
  · rfl
  · split <;> rfl

theorem heatStep_drive (s : State) : (heatStep s).drive = s.drive := by
  unfold heatStep
  split
  · rfl
  · exact judgeZone_drive _

theorem msTick_drive (s : State) : s.msTick.drive = s.drive := by
  unfold State.msTick
  split <;> rfl

/-- R151: the expiry turns a lamp that is ON OFF, or does nothing. -/
theorem idleTimerExpiry_drive (s : State) : (idleTimerExpiry s).drive = s.drive
    ∨ s.lamp.on = true ∧ (idleTimerExpiry s).drive = ⟨false, s.lamp.applied, 0⟩ := by
  by_cases h : ∃ st, s.plan.station = some st ∧ 0 < st.idleTime ∧ s.lamp.on = true ∧ s.seq.current = none
  · obtain ⟨st, hst, hidle, hon, hc⟩ := h
    rw [idleTimerExpiry_due hst hidle hon hc]
    exact .inr ⟨hon, rfl⟩
  · exact .inl (congrArg State.drive (idleTimerExpiry_stays h))

/-- A state with the drive of `s` turns off as `s` does. -/
theorem idleTimerExpiry_drive_of {s u : State} (h : u.drive = s.drive) : (idleTimerExpiry u).drive = s.drive
    ∨ s.lamp.on = true ∧ (idleTimerExpiry u).drive = ⟨false, s.lamp.applied, 0⟩ := by
  have hon : u.lamp.on = s.lamp.on := congrArg Drive.on h
  have happlied : u.lamp.applied = s.lamp.applied := congrArg Drive.applied h
  rw [← h, ← hon, ← happlied]
  exact idleTimerExpiry_drive u

/-- R151, R158: a 1 ms tick can turn the lamp OFF, before or after the heat model's part. -/
theorem heatTick_drive (s : State) : (heatTick s).drive = s.drive
    ∨ s.lamp.on = true ∧ (heatTick s).drive = ⟨false, s.lamp.applied, 0⟩ := by
  cases hst : s.plan.station with
  | none => exact .inl (congrArg State.drive (heatTick_unconfigured hst))
  | some st =>
    have htick : (s.msTick.draw 1).drive = s.drive := msTick_drive s
    cases hdue : s.msTick.idleDue with
    | false =>
      rw [heatTick_stays hst hdue, heatStep_drive, msTick_drive]
      exact .inl rfl
    | true =>
      rcases heatTick_turnsOff hst hdue with h | h
      · rw [h]
        exact idleTimerExpiry_drive_of ((heatStep_drive _).trans htick)
      · rw [h, heatStep_drive]
        exact idleTimerExpiry_drive_of htick

/-! ### STATION (9.5) -/

theorem completeFilters_drive (s : State) : s.completeFilters.drive = s.drive :=
  foldl_keeps State.drive _ (fun u c => (refresh_drive _).trans (drive_of_lamp (lineEvent_lamp c u))) _ _

/-- R157: a running lamp keeps its power, its applied duty and its counter through a new station record. -/
theorem acceptStation_drive (s : State) (st : Station) : (s.acceptStation st).drive = s.drive :=
  (completeFilters_drive _).trans (judgeZone_drive _)

theorem stationRecord_drive (s : State) : (stationRecord s).drive = s.drive := by
  unfold stationRecord
  split
  · rfl
  dsimp only
  split
  · rfl
  split
  · rfl
  split
  · rfl
  · exact acceptStation_drive s _

/-! ### The latch keeps the request (Table 8-2, R155) -/

/-- A latched tile is SETTLING or EXPOSING, still the sequencer's. -/
theorem enterSettling_currentTile {s : State} {t : TileNo} {tile : Tile} {plate : Plate}
    (hc : s.currentTile = some (t, tile, plate)) :
    ∃ state, (state = .settling ∨ state = .exposing)
      ∧ (s.enterSettling t tile).currentTile = some (t, { tile with state := state }, plate) := by
  obtain ⟨hcur, -, hp, -⟩ := currentTile_some.1 hc
  by_cases hz : s.setting (·.settleTime) = 0
  · cases ht : s.seq.trig with
    | false =>
      refine ⟨.exposing, .inr rfl, ?_⟩
      rw [enterSettling_exposes t tile hz ht]
      exact currentTile_some.2 ⟨hcur, setTile_self s t _, hp, rfl⟩
    | true =>
      refine ⟨.settling, .inl rfl, ?_⟩
      rw [enterSettling_defers t tile hz ht]
      exact currentTile_some.2 ⟨hcur, setTile_self s t _, hp, rfl⟩
  · refine ⟨.settling, .inl rfl, ?_⟩
    rw [enterSettling_timed t tile (Nat.pos_of_ne_zero hz)]
    exact currentTile_some.2 ⟨hcur, setTile_self s t _, hp, rfl⟩

/-- The duty that line 2 asks for is the same before the latch, ARMED in a COOL zone, and after it. -/
theorem latch_tileDuty (s : State) : s.latch.tileDuty = s.tileDuty := by
  unfold State.latch
  split
  · rfl
  next t tile plate hc =>
  split
  · next hl =>
    obtain ⟨hz, ha, -⟩ := (latches_iff s tile).1 hl
    obtain ⟨state, hstate, hafter⟩ := enterSettling_currentTile hc
    rcases hstate with rfl | rfl <;> simp [State.tileDuty, hc, hafter, ha, hz]
  · rfl

theorem latch_requestNow (s : State) : s.latch.requestNow = s.requestNow := by
  simp only [State.requestNow, latch_tileDuty, State.setting, latch_frame]

/-! ### Period end and turn-on (8.2, 8.4) -/

theorem latch_drive (s : State) : s.latch.drive = s.drive := drive_of_lamp (by simp)

/-- R148, R154: the period end of a lamp that is ON. -/
theorem periodEnd_drive {s : State} (h : s.lamp.on = true) : (periodEnd s).drive = ⟨true, s.lamp.requested, 0⟩ := by
  rw [periodEnd_on h, latch_drive, ← h]
  rfl

/-- R150, R154: the turn-on applies the request formed there, which the latch does not change. -/
theorem turnOn_drive (s : State) : s.turnOn.drive = ⟨true, s.turnOn.requestNow.1, 0⟩ := by
  rw [turnOn_eq, latch_drive, latch_requestNow]
  rfl

/-- R55, R150: an arming that finds the lamp OFF turns it ON; any other keeps the drive. -/
theorem arming_drive (s : State) : (arming s).drive = s.drive
    ∨ s.lamp.on = false ∧ (arming s).drive = ⟨true, (arming s).requestNow.1, 0⟩ := by
  cases hm : s.mayArm with
  | false => exact .inl (congrArg State.drive (arming_waits (.inl hm)))
  | true =>
  cases hcand : s.candidate with
  | none => exact .inl (congrArg State.drive (arming_waits (.inr hcand)))
  | some chosen =>
  obtain ⟨t, plate⟩ := chosen
  obtain ⟨tile, ht⟩ := candidate_tile hcand
  rw [arming_candidate hm hcand ht]
  cases hon : s.lamp.on with
  | false =>
    rw [armTile_lampOff t plate tile hon]
    exact .inr ⟨rfl, turnOn_drive _⟩
  | true =>
    rw [armTile_lampOn t plate tile hon]
    exact .inl (drive_of_lamp (s := s.armedFor t plate tile) (by simp))

/-! ### What an effect can do -/

/-- R148, R150, R151, R154: everything that the effect of a command can do to the drive of the lamp. -/
inductive DriveMove (c : Instr) (s t : State) : Prop
  | kept (h : t.drive = s.drive)
  | latched (hc : c = .periodEnd) (hon : s.lamp.on = true) (h : t.drive = ⟨true, s.lamp.requested, 0⟩)
  | turnedOn (hc : c = .arming) (hon : s.lamp.on = false) (h : t.drive = ⟨true, t.requestNow.1, 0⟩)
  | turnedOff (hc : c = .idleTimerExpiry ∨ c = .heatTick) (hon : s.lamp.on = true)
      (h : t.drive = ⟨false, s.lamp.applied, 0⟩)
  | reset (lines : StageLines) (straps : BitVec 12) (hc : c = .powerOnReset lines straps) (h : t.drive = ⟨false, 0, 0⟩)

theorem effect_drive (c : Instr) (s : State) : DriveMove c s (effect c s) := by
  have hlamp : ∀ {t : State}, t.lamp = s.lamp → DriveMove c s t := fun h => .kept (drive_of_lamp h)
  cases c with
  | powerOnReset lines straps => exact .reset lines straps rfl rfl
  | upstreamRequestFault r =>
    cases r with
    | read r => exact hlamp (presentRead_lamp s r)
    | write w => exact hlamp (presentWrite_lamp s w)
  | post w => exact hlamp (presentWrite_lamp s w)
  | withdrawal w => exact hlamp (presentWrite_lamp s w)
  | consume w => exact hlamp (presentWrite_lamp s w)
  | capture w => exact hlamp (presentWrite_lamp s w)
  | heldWrite w => exact hlamp (presentWrite_lamp s w)
  | heldRead r => exact hlamp (presentRead_lamp s r)
  | plainWrite w => exact hlamp (presentWrite_lamp s w)
  | plainRead r => exact hlamp (presentRead_lamp s r)
  | heldWriteEntry => exact hlamp (heldWriteEntry_lamp s)
  | arbiterGrant => exact hlamp (by simp [effect])
  | drainRetireOk => exact hlamp (drainResponds_lamp s .ok)
  | drainRetireFault => exact hlamp (drainResponds_lamp s .fault)
  | upstreamReadResponse m st data => exact hlamp (readResponds_lamp s m st data)
  | fetchResponse st data => exact hlamp (fetchResponds_lamp s st data)
  | unmatchedResponse id st data => exact hlamp (responds_lamp s id st data)
  | station => exact .kept (stationRecord_drive s)
  | plate => exact hlamp (plateRecord_lamp s)
  | retake => exact hlamp (retakeRecord_lamp s)
  | dismiss => exact hlamp (dismissRecord_lamp s)
  | dismissReservation => exact hlamp (by simp [effect])
  | resultWordEntry => exact hlamp (resultWordEntry_lamp s)
  | recordLineEntry => exact hlamp (recordLineEntry_lamp s)
  | headerLineEntry => exact hlamp (headerLineEntry_lamp s)
  | arming =>
    rcases arming_drive s with h | ⟨hon, h⟩
    · exact .kept h
    · exact .turnedOn rfl hon h
  | periodEnd =>
    cases hon : s.lamp.on with
    | false => exact .kept (congrArg State.drive (periodEnd_off hon))
    | true => exact .latched rfl hon (periodEnd_drive hon)
  | settleExpiry => exact hlamp (settleExpiry_lamp s)
  | triggerPulseEnd => exact hlamp (triggerPulseEnd_lamp s)
  | deferredTrigger => exact hlamp (deferredTrigger_lamp s)
  | exposureTimerExpiry => exact hlamp (exposureTimerExpiry_lamp s)
  | holdTimerExpiry m => exact hlamp (by simp [effect])
  | validTransition ax line => exact hlamp (lineEvent_lamp (.validTransition ax line) s)
  | invalidTransition ax => exact hlamp (lineEvent_lamp (.invalidTransition ax) s)
  | homeEdge ax => exact hlamp (lineEvent_lamp (.homeEdge ax) s)
  | dwellExpiry => exact hlamp (dwellExpiry_lamp s)
  | cutRise => exact hlamp (lineEvent_lamp .cutRise s)
  | cutFall => exact hlamp (lineEvent_lamp .cutFall s)
  | idleTimerExpiry =>
    rcases idleTimerExpiry_drive s with h | ⟨hon, h⟩
    · exact .kept h
    · exact .turnedOff (.inl rfl) hon h
  | heatTick =>
    rcases heatTick_drive s with h | ⟨hon, h⟩
    · exact .kept h
    · exact .turnedOff (.inr rfl) hon h
  | fallingHomeEdge ax => exact hlamp (lineEvent_lamp (.fallingHomeEdge ax) s)

end Sys2Proof.Machine
end

section
/-! PROOFS. The levels of the lamp after a step (08 8.2, 8.4, 8.7): the lamp law (O53). -/

namespace Sys2Proof.Machine

/-! ### The counter of a lamp that is OFF (R148) -/

/-- The period counter of a lamp that is OFF stands at 0. -/
def Drive.Stopped (d : Drive) : Prop := d.on = false → d.counter = 0

theorem effect_stopped (c : Instr) {s : State} (h : s.drive.Stopped) : (effect c s).drive.Stopped := by
  cases effect_drive c s with
  | kept hd => rwa [hd]
  | latched _ _ hd => rw [hd]; exact fun hoff => nomatch hoff
  | turnedOn _ _ hd => rw [hd]; exact fun hoff => nomatch hoff
  | turnedOff _ _ hd => rw [hd]; exact fun _ => rfl
  | reset _ _ _ hd => rw [hd]; exact fun _ => rfl

/-- A CLK cycle counts the period of a lamp that is ON alone. -/
theorem advance_stopped (k : Ticks) {s : State} (h : s.drive.Stopped) : (s.advance k).drive.Stopped := by
  intro hoff
  simp only [State.advance, countClk_eq, usTick_counts, msTick_counts, lampTick_counts, State.drive] at hoff ⊢
  have hoff : s.lamp.on = false := hoff
  have hcounter : s.lamp.counter = 0 := h hoff
  simpa [hoff] using hcounter

theorem step_stopped {s t : State} (h : s.drive.Stopped) (ht : step s = .next t) : t.drive.Stopped :=
  step_keeps (·.drive.Stopped) (fun _ _ hs => hs) (fun k _ hs => advance_stopped k hs) (fun _ _ hs => hs)
    (fun c s hs => (refresh_drive (effect c s)).symm ▸ effect_stopped c hs)
    (fun s hs => (refresh_drive (heatStep s)).symm ▸ (heatStep_drive s).symm ▸ hs)
    (fun s hs => (refresh_drive s).symm ▸ hs) (fun s hs => (conclude_drive s).symm ▸ hs) s t h ht

/-! ### The levels stand at the end of every step -/

/-- The request and LAMP are as `refresh` leaves them. -/
structure LevelsStand (s : State) : Prop where
  requested : s.lamp.requested = s.requestNow.1
  fromTile : s.lamp.fromTile = s.requestNow.2
  out : s.lamp.out = s.lampLevel

theorem refresh_levels (s : State) : LevelsStand (refresh s) := ⟨rfl, rfl, rfl⟩

/-- Whatever follows in a step, the levels are brought up to date after it. -/
theorem finish_levels (s : State) : LevelsStand (finish s) := by
  have hsettled : LevelsStand (settle mostFollows (refresh s)) :=
    settle_keeps LevelsStand (fun _ _ h => ⟨h.requested, h.fromTile, h.out⟩) (fun _ _ _ => refresh_levels _) _ _
      (refresh_levels s)
  rw [finish, conclude_moves]
  exact ⟨hsettled.requested, hsettled.fromTile, hsettled.out⟩

/-- A step, whether a command's, the part's own or a CLK cycle, ends as every step does. -/
theorem step_finishes {s t : State} (h : step s = .next t) : ∃ u, t = finish u := by
  unfold step at h
  split at h
  · unfold idle at h
    split at h
    · cases h
      exact ⟨_, rfl⟩
    · rw [exec_eq] at h
      cases h
      exact ⟨_, rfl⟩
  · rw [exec_eq] at h
    cases h
    exact ⟨_, rfl⟩

theorem lampLaw_of_levels {s : State} (hlevels : LevelsStand s) (hstopped : s.drive.Stopped) : LampLaw s where
  request := by
    rw [hlevels.requested, hlevels.fromTile]
    exact requestNow_lines s
  out := by rw [hlevels.out, lampLevel_eq, decide_eq_true_iff]
  stopped := hstopped

/-- Settles O53: the request and LAMP stand at the end of any step (`finish_levels`), and a counter that is stopped stays
stopped (`step_stopped`). -/
theorem everyStepKeepsTheLampLaw : Obligations.EveryStepKeepsTheLampLaw := by
  unfold Obligations.EveryStepKeepsTheLampLaw
  intro s t law ht
  obtain ⟨u, hu⟩ := step_finishes ht
  have hlevels : LevelsStand t := hu ▸ finish_levels u
  exact lampLaw_of_levels hlevels (step_stopped law.stopped ht)

end Sys2Proof.Machine
end

section
/-! PROOFS. Where the applied duty changes (08 8.4): period ends and turn-ons (O50). -/

namespace Sys2Proof.Machine

/-! ### What follows in a step can turn the lamp ON -/

/-- Either the drive has stayed, or a lamp that was OFF is ON. -/
def LitAtMost (s t : State) : Prop := t.drive = s.drive ∨ (s.lamp.on = false ∧ t.lamp.on = true)

theorem LitAtMost.trans {s t u : State} (hst : LitAtMost s t) (htu : LitAtMost t u) : LitAtMost s u := by
  rcases htu with htu | ⟨hoff, hon⟩
  · rcases hst with hst | ⟨hoff, hon⟩
    · exact .inl (htu.trans hst)
    · exact .inr ⟨hoff, (congrArg Drive.on htu).trans hon⟩
  · rcases hst with hst | ⟨-, hon'⟩
    · exact .inr ⟨(congrArg Drive.on hst).symm.trans hoff, hon⟩
    · exact absurd (hon'.symm.trans hoff) (by decide)

theorem LitAtMost.on {s t : State} (h : LitAtMost s t) (hon : s.lamp.on = true) : t.drive = s.drive := by
  rcases h with h | ⟨hoff, -⟩
  · exact h
  · exact absurd (hon.symm.trans hoff) (by decide)

theorem followUp_lights (c : Instr) (s : State) : LitAtMost s (followUp c s) := by
  have hlamp : ∀ {t : State}, t.lamp = s.lamp → LitAtMost s t := fun h => .inl (drive_of_lamp h)
  cases c with
  | station => exact .inl (stationRecord_drive s)
  | plate => exact hlamp (plateRecord_lamp s)
  | retake => exact hlamp (retakeRecord_lamp s)
  | dismiss => exact hlamp (dismissRecord_lamp s)
  | dismissReservation => exact hlamp (by simp [followUp])
  | arming => exact (arming_drive s).imp_right fun ⟨hoff, h⟩ => ⟨hoff, congrArg Drive.on h⟩
  | arbiterGrant => exact hlamp (by simp [followUp])
  | heldWriteEntry => exact hlamp (heldWriteEntry_lamp s)
  | recordLineEntry => exact hlamp (recordLineEntry_lamp s)
  | headerLineEntry => exact hlamp (headerLineEntry_lamp s)
  | resultWordEntry => exact hlamp (resultWordEntry_lamp s)
  | _ => exact .inl rfl

theorem finish_lights (s : State) : LitAtMost s (finish s) := by
  have hsettled : LitAtMost s (settle mostFollows (refresh s)) :=
    settle_keeps (LitAtMost s) (fun _ _ h => h)
      (fun c u hu => (hu.trans (followUp_lights c u)).trans (.inl (refresh_drive _))) _ _ (.inl (refresh_drive s))
  exact hsettled.trans (.inl (conclude_drive _))

/-! ### Effects and commands (R154) -/

/-- The request that `refresh` forms is that of the state it is given. -/
theorem refresh_requested (s : State) : (refresh s).lamp.requested = s.requestNow.1 := by
  by_cases h : s.MayTakeRecord
  · rw [refresh_takes h]
    rfl
  · rw [refresh_stays h]
    rfl

/-- R154 of one effect, with its levels brought up to date. -/
theorem effect_applied (c : Instr) (s : State)
    (hne : (refresh (effect c s)).lamp.applied ≠ s.lamp.applied) :
    (c = .periodEnd ∧ s.lamp.on = true ∧ (refresh (effect c s)).lamp.applied = s.lamp.requested)
    ∨ (c = .arming ∧ s.lamp.on = false ∧ (refresh (effect c s)).lamp.on = true
      ∧ (refresh (effect c s)).lamp.applied = (refresh (effect c s)).lamp.requested)
    ∨ ∃ lines straps, c = .powerOnReset lines straps ∧ (refresh (effect c s)).lamp.applied = 0 := by
  have hrefresh := refresh_drive (effect c s)
  cases effect_drive c s with
  | kept h => exact absurd (congrArg Drive.applied (hrefresh.trans h)) hne
  | latched hc hon h => exact .inl ⟨hc, hon, congrArg Drive.applied (hrefresh.trans h)⟩
  | turnedOn hc hon h =>
    exact .inr (.inl ⟨hc, hon, congrArg Drive.on (hrefresh.trans h),
      (congrArg Drive.applied (hrefresh.trans h)).trans (refresh_requested _).symm⟩)
  | turnedOff hc hon h => exact absurd (congrArg Drive.applied (hrefresh.trans h)) hne
  | reset lines straps hc h => exact .inr (.inr ⟨lines, straps, hc, congrArg Drive.applied (hrefresh.trans h)⟩)

/-- R154 of one command with what follows in its step. -/
theorem finish_applied (c : Instr) (s : State) (hne : (finish (effect c s)).lamp.applied ≠ s.lamp.applied) :
    (c = .periodEnd ∧ s.lamp.on = true ∧ (finish (effect c s)).lamp.applied = s.lamp.requested)
    ∨ ((s.lamp.on = false ∨ c = .heatTick ∨ c = .idleTimerExpiry) ∧ (finish (effect c s)).lamp.on = true)
    ∨ ∃ lines straps, c = .powerOnReset lines straps ∧ (finish (effect c s)).lamp.applied = 0 := by
  have hlit := finish_lights (effect c s)
  cases effect_drive c s with
  | kept h =>
    rcases LitAtMost.trans (.inl h) hlit with hkept | ⟨hoff, hon⟩
    · exact absurd (congrArg Drive.applied hkept) hne
    · exact .inr (.inl ⟨.inl hoff, hon⟩)
  | latched hc hon h =>
    have hkept := (hlit.on (congrArg Drive.on h)).trans h
    exact .inl ⟨hc, hon, congrArg Drive.applied hkept⟩
  | turnedOn hc hoff h =>
    have hkept := (hlit.on (congrArg Drive.on h)).trans h
    exact .inr (.inl ⟨.inl hoff, congrArg Drive.on hkept⟩)
  | turnedOff hc hon h =>
    rcases hlit with hkept | ⟨-, hlit⟩
    · exact absurd (congrArg Drive.applied (hkept.trans h)) hne
    · exact .inr (.inl ⟨.inr hc.symm, hlit⟩)
  | reset lines straps hc h =>
    refine .inr (.inr ⟨lines, straps, hc, ?_⟩)
    subst hc
    exact congrArg (·.lamp.applied) (finish_powerOnReset lines straps s)

/-- Settles O50: the five things that an effect can do to the drive (`effect_drive`), and of what follows in its step the
one that moves the drive, a turn-on (`finish_lights`). -/
theorem appliedDutyChangesOnlyWhereLatched : Obligations.AppliedDutyChangesOnlyWhereLatched := by
  unfold Obligations.AppliedDutyChangesOnlyWhereLatched
  refine ⟨fun c s => effect_applied c s, fun c s t ht hne => ?_⟩
  rw [exec_eq] at ht
  cases ht
  exact finish_applied c s hne

end Sys2Proof.Machine
end

section
/-! PROOFS. The ring of plan slots (09 9.2, 9.4): POST writes and withdrawals (O12), and the result word that ends a
take (O23). -/

namespace Sys2Proof.Machine

section
variable {s : State} {w : WriteReq} {k : PlanSlot} {v : Word}

/-! ### Posted flags (R170) -/

theorem taking_iff (s : State) (k : PlanSlot) : s.taking k = true ↔ ∃ tk, s.plan.take = some tk ∧ tk.slot = k := by
  simp [State.taking, Option.any_eq_true]

theorem postFlag_of_taking (v : Word) (h : ∃ tk, s.plan.take = some tk ∧ tk.slot = k) : s.postFlag k v = s :=
  if_pos ((taking_iff s k).2 h)

theorem postFlag_of_not_taking (v : Word) (h : ¬∃ tk, s.plan.take = some tk ∧ tk.slot = k) :
    s.postFlag k v = { s with plan := { s.plan with posted := s.plan.posted.set k (v != 0) } } :=
  if_neg (mt (taking_iff s k).1 h)

/-! ### A write of class POST (R104, R170) -/

theorem postedOrHeld_plan (c : WriteClass) (w : WriteReq) (s : State) : (s.postedOrHeld c w).plan = s.plan := by
  unfold State.postedOrHeld
  split
  · rfl
  · split <;> rfl

/-- The flag moves first, then the write goes on like a PLAIN one. -/
theorem postWrite_of_flag (k : PlanSlot) (v : Word) (w : WriteReq) (s : State) :
    (s.postFlag k v).postWrite (.post k v) w = (s.postFlag k v).postedOrHeld (.post k v) w :=
  postWrite_plain (.post k v) nofun nofun w _

theorem presentWrite_post (h : s.Takes w) (hc : s.classify w = .post k v) (hv : v ≠ 0) :
    s.presentWrite w = ((s.postFlag k v).postedOrHeld (.post k v) w).search := by
  simp only [h.present, State.decodeWrite, hc, postWrite_of_flag, if_neg hv]

theorem presentWrite_withdrawal (h : s.Takes w) (hc : s.classify w = .post k 0) :
    s.presentWrite w = (s.postFlag k 0).postedOrHeld (.post k 0) w := by
  simp only [h.present, State.decodeWrite, hc, postWrite_of_flag, if_true]

end

/-- Settles O12: `postFlag_of_taking` and `postFlag_of_not_taking` for the flag; the search after a POST write finds a
take (`search_of_take`) or starts one (`search_of_first`). -/
theorem postWritesMoveTheFlags : Obligations.PostWritesMoveTheFlags := by
  unfold Obligations.PostWritesMoveTheFlags
  refine ⟨?busy, ?free, ?withdrawal⟩
  case busy =>
    intro w s k v tk h hc hv htake flags
    have hflag : s.postFlag k v = { s with plan := { s.plan with posted := flags } } := by
      by_cases hslot : tk.slot = k
      · rw [postFlag_of_taking v ⟨tk, htake, hslot⟩, show flags = _ from if_pos hslot]
      · rw [postFlag_of_not_taking v (by simpa [htake] using hslot), show flags = _ from if_neg hslot,
          bne_iff_ne.2 hv]
    refine exec_of_effect ((presentWrite_post h hc hv).trans ?_)
    rw [hflag]
    exact search_of_take ((congrArg Plan.take (postedOrHeld_plan _ _ _)).trans htake)
  case free =>
    intro w s k j v h hc hv htake plan hfirst
    have hflag : s.postFlag k v = { s with plan := plan } := by
      rw [postFlag_of_not_taking v (by simp [htake]), bne_iff_ne.2 hv]
    refine exec_of_effect ((presentWrite_post h hc hv).trans ?_)
    rw [hflag]
    have hplan := postedOrHeld_plan (.post k v) w { s with plan := plan }
    exact search_of_first ((congrArg Plan.take hplan).trans htake) (by rwa [hplan])
  case withdrawal =>
    intro w s k h hc flags
    have hflag : s.postFlag k 0 = { s with plan := { s.plan with posted := flags } } := by
      by_cases hslot : ∃ tk, s.plan.take = some tk ∧ tk.slot = k
      · rw [postFlag_of_taking 0 hslot, show flags = _ from if_pos hslot]
      · rw [postFlag_of_not_taking 0 hslot, show flags = _ from if_neg hslot]
        rfl
    exact exec_of_effect ((presentWrite_withdrawal h hc).trans (by rw [hflag]))

/-! ### The result word (R171, R176) -/

/-- The post word is the last word of its slot, so word 7 of a line (R168). -/
theorem wordPos_postWord (s : State) (k : PlanSlot) : wordPos (s.postWord k) = 7 := by
  simp only [wordPos, State.postWord, State.slotBase, State.planBase, Config.slotBytes]
  omega

theorem resultWrite_postWord (s : State) (k : PlanSlot) (result : Word) :
    resultWrite (s.postWord k) result =
      { line := (s.straps.toNat * 1048576 + k.val * 256 + 252) / 32 * 32, bytes := wordBytes 7 result 15
        source := .plan, tileRef := none, header := none } := by
  rw [resultWrite, wordPos_postWord]
  rfl

theorem nextPosted_none {p : Plan} (h : ∀ j : PlanSlot, p.posted[j] = false) : p.nextPosted = none := by
  refine List.find?_eq_none.2 fun j _ => ?_
  rw [h j]
  exact Bool.false_ne_true

theorem search_of_none {s : State} (h : ∀ j : PlanSlot, s.plan.posted[j] = false) : s.search = s := by
  cases htake : s.plan.take <;> simp only [State.search, htake, nextPosted_none h]

section
variable {s : State} {k : Take} {result : Word} {rest : List ReadyLine}

theorem resultWordEntry_enters (hl : s.report.ready = .result :: rest) (hk : s.plan.take = some k)
    (hstep : k.step = .finished result) (hmay : s.readyMayEnter = true) :
    resultWordEntry s =
      State.endTake k { s.entered (resultWrite (s.postWord k.slot) result) with
        report := { s.report with ready := rest, waits := false } } := by
  simp only [resultWordEntry, hl, hk, hstep, hmay, if_true, enterReady_eq hl (readyWrite_of_result hk hstep)]

theorem resultWordEntry_waits (h : s.readyMayEnter = false) : resultWordEntry s = s := by
  unfold resultWordEntry
  split
  · split
    · rw [h]
      rfl
    · rfl
  · rfl

end

/-- Settles O23: `resultWordEntry_enters`, where `readyMayEnter_one` says when; then the search for a posted slot. -/
theorem resultWordEndsTheTake : Obligations.ResultWordEndsTheTake := by
  unfold Obligations.ResultWordEndsTheTake
  intro s k result rest hl hk hstep post q a
  have hq : resultWrite (s.postWord k.slot) result = q := resultWrite_postWord s k.slot result
  have hmay : s.readyMayEnter = true ↔ s.MayEnter q :=
    readyMayEnter_one hl ((readyWrite_of_result hk hstep).trans (congrArg some hq))
  refine ⟨fun h => ?_, fun h => exec_of_effect (resultWordEntry_waits (Bool.eq_false_iff.2 fun hm => h (hmay.1 hm)))⟩
  have hends : resultWordEntry s = a.search := by
    rw [resultWordEntry_enters hl hk hstep (hmay.2 h), hq]
    rfl
  exact ⟨fun hnone => exec_of_effect (hends.trans (search_of_none hnone)),
    fun j hj => exec_of_effect (hends.trans (search_of_first rfl hj))⟩

end Sys2Proof.Machine
end

section
/-! PROOFS. Plan records that are refused (09 9.5 to 9.7): the fields and checks of a STATION record (O31), and the
checks of STATION, PLATE and RETAKE in their order (O32). -/

namespace Sys2Proof.Machine

/-! ### The fields and checks of a STATION record (Tables 11-2, 9-4) -/

theorem stationApart_iff (s : State) (st : Station) :
    s.stationApart st = true ↔ overlaps st.window st.reportArea = false ∧ overlaps st.window s.planArea = false
      ∧ overlaps st.reportArea s.planArea = false := by
  simp only [State.stationApart, Bool.and_eq_true, Bool.not_eq_true', and_assoc]

/-- Settles O31: the fields are `stationOf` with its bits as word parts, the areas by `not_overlaps_iff`. -/
theorem stationFieldsAndChecks : Obligations.StationFieldsAndChecks := by
  unfold Obligations.StationFieldsAndChecks
  refine ⟨fun ws => ?_, fun s st => ?_⟩
  · intro w field
    have hfield : ∀ n lo len, bits (wordAt ws n) lo len = field n lo len := fun n lo len => bits_eq_extract _ _ _
    refine ⟨?fields, ?checks⟩
    case fields =>
      simp only [stationOf, hfield, toNat_eq_zero_iff]
      rfl
    case checks =>
      refine congrArg (fun cs : List Check => (cs.find? fun c => !c.1).map (·.2)) (?_ : stationChecks ws = _)
      simp only [stationChecks, stationOf, hfield, List.contains_eq_mem, beq_eq_decide, ← Bool.decide_and, and_assoc]
      rfl
  · intro apart
    have hapart : ∀ a b : Range, overlaps a b = false ↔ apart a.1 a.2 b.1 b.2 := not_overlaps_iff
    simp only [stationApart_iff, hapart]
    rfl

/-! ### A refusal ends the take (R176) -/

section
variable {s : State} {k : Take}

/-- A record that is refused leaves its result word, and all else as it was. -/
theorem exec_of_refusal {kind : Kind} {code : Code} {detail : Nat} (hk : s.fetched kind = some k)
    (h : effect kind.row s = s.result k code detail) :
    exec kind.row s = .next (finish (s.withResult k (resultWord kind.number code detail))) := by
  obtain ⟨htake, -, hkind⟩ := fetched_some hk
  rw [← kindField_of_kind hkind, ← result_eq code detail htake]
  exact exec_of_effect h

/-! ### STATION (R177) -/

theorem idleForStation_iff (s : State) :
    s.idleForStation = true ↔ (∀ p : SlotNo, s.asm.plates[p] = none) ∧ s.report.queue = [] := by
  simp only [State.idleForStation, Bool.and_eq_true, List.all_eq_true, Option.isNone_iff_eq_none, List.isEmpty_iff,
    Vector.mem_toList_iff, Vector.mem_iff_getElem]
  exact and_congr_left fun _ => ⟨fun h p => h _ ⟨p.val, p.isLt, rfl⟩, fun h x ⟨i, hi, hx⟩ => hx ▸ h ⟨i, hi⟩⟩

theorem stationRecord_badField {i : Nat} (hk : s.fetched .station = some k)
    (hcheck : firstFailing (stationChecks k.body) = some i) : stationRecord s = s.result k .badField i := by
  simp only [stationRecord, hk, hcheck]

theorem stationRecord_overlap (hk : s.fetched .station = some k) (hcheck : firstFailing (stationChecks k.body) = none)
    (hapart : s.stationApart (stationOf k.body) = false) : stationRecord s = s.result k .overlap 0 := by
  simp only [stationRecord, hk, hcheck, hapart, Bool.not_false, if_true]

theorem stationRecord_busy (hk : s.fetched .station = some k) (hcheck : firstFailing (stationChecks k.body) = none)
    (hapart : s.stationApart (stationOf k.body) = true) (hidle : s.idleForStation = false) :
    stationRecord s = s.result k .busy 0 := by
  simp [stationRecord, hk, hcheck, hapart, hidle]

/-! ### PLATE (R175, R179, R180) -/

theorem hasRoom_iff (s : State) (g : Geometry) :
    s.hasRoom g = true ↔ s.freeSlots ≠ [] ∧ g.tiles ≤ s.freeTiles.length ∧ g.rows ≤ s.freeHolds.length := by
  simp [State.hasRoom, and_assoc]

theorem plateRecord_noStation (hk : s.fetched .plate = some k) (hst : s.plan.station = none) :
    plateRecord s = s.result k .noStation 0 := by
  simp only [plateRecord, hk, hst]

section
variable {st : Station}

theorem plateRecord_badField {i : Nat} (hk : s.fetched .plate = some k) (hst : s.plan.station = some st)
    (hcheck : firstFailing (plateChecks k.body) = some i) : plateRecord s = s.result k .badField i := by
  simp only [plateRecord, hk, hst, hcheck]

theorem plateRecord_overlap (hk : s.fetched .plate = some k) (hst : s.plan.station = some st)
    (hcheck : firstFailing (plateChecks k.body) = none) (hapart : s.plateApart st (recordPlate k.body) = false) :
    plateRecord s = s.result k .overlap 0 := by
  simp only [plateRecord, hk, hst, hcheck, hapart, Bool.not_false, if_true]

theorem plateRecord_noRoom (hk : s.fetched .plate = some k) (hst : s.plan.station = some st)
    (hcheck : firstFailing (plateChecks k.body) = none) (hapart : s.plateApart st (recordPlate k.body) = true)
    (hroom : s.hasRoom (geometryOf k.body) = false) : plateRecord s = s.result k .noRoom 0 := by
  simp [plateRecord, hk, hst, hcheck, hapart, hroom]

end

/-! ### RETAKE (R175, R181) -/

theorem retakeRecord_noStation (hk : s.fetched .retake = some k) (hst : s.plan.station = none) :
    retakeRecord s = s.result k .noStation 0 := by
  simp [retakeRecord, hk, State.configured, hst]

theorem retakeRecord_badSlot (hk : s.fetched .retake = some k) (hst : s.plan.station.isSome = true)
    (hslot : 4 ≤ (wordAt k.body 0).toNat) : retakeRecord s = s.result k .badField 0 := by
  simp [retakeRecord, hk, State.configured, hst, slotField_of_big hslot]

theorem retakeRecord_wrongPlate {p : SlotNo} (hk : s.fetched .retake = some k) (hst : s.plan.station.isSome = true)
    (hp : p.val = (wordAt k.body 0).toNat) (hplate : s.namedPlate p (wordAt k.body 1) = none) :
    retakeRecord s = s.result k .wrongPlate 0 := by
  simp [retakeRecord, hk, State.configured, hst, slotField_of_val hp, hplate]

theorem tileOf_beyond {plate : Plate} {i : Nat} (h : plate.tiles.length ≤ i) : s.tileOf plate i = none := by
  simp [State.tileOf, List.getElem?_eq_none h]

section
variable {p : SlotNo} {plate : Plate} {t : TileNo} {tile : Tile}

theorem holdForRow_false {row : Nat} (hopen : plate.bandHold row = none) (hfree : s.freeHolds = []) :
    s.holdForRow plate row = false := by
  simp only [State.holdForRow, hopen, hfree]
  rfl

variable (hk : s.fetched .retake = some k) (hst : s.plan.station.isSome = true)
  (hp : p.val = (wordAt k.body 0).toNat) (hplate : s.namedPlate p (wordAt k.body 1) = some plate)
include hk hst hp hplate

theorem retakeRecord_noTile (hbeyond : plate.tiles.length ≤ (wordAt k.body 2).toNat) :
    retakeRecord s = s.result k .badField 2 := by
  simp [retakeRecord, hk, State.configured, hst, slotField_of_val hp, hplate, tileOf_beyond hbeyond]

theorem retakeRecord_tileBusy (hi : plate.tiles[(wordAt k.body 2).toNat]? = some t) (ht : s.asm.tiles[t] = some tile)
    (hfinal : tile.final = false) : retakeRecord s = s.result k .tileBusy 0 := by
  simp [retakeRecord, hk, State.configured, hst, slotField_of_val hp, hplate, tileOf_some hi ht, hfinal]

theorem retakeRecord_noHold (hi : plate.tiles[(wordAt k.body 2).toNat]? = some t) (ht : s.asm.tiles[t] = some tile)
    (hfinal : tile.final = true) (hrow : s.holdForRow plate tile.row = false) :
    retakeRecord s = s.result k .noHold 0 := by
  simp [retakeRecord, hk, State.configured, hst, slotField_of_val hp, hplate, tileOf_some hi ht, hfinal, hrow]

end

end

/-- Settles O32: a refused record of each kind by its first check that fails (the `stationRecord`, `plateRecord` and
`retakeRecord` lemmas above), and `exec_of_refusal` for what a refusal does. -/
theorem refusedRecordsChangeNothing : Obligations.RefusedRecordsChangeNothing := by
  unfold Obligations.RefusedRecordsChangeNothing
  refine ⟨?station, ?plate, ?retake⟩
  case station =>
    intro s k hk st ends
    have refused : ∀ {code detail}, stationRecord s = s.result k code detail → exec .station s = ends code detail :=
      exec_of_refusal (kind := .station) hk
    refine ⟨fun i hi => refused (stationRecord_badField hk hi), fun hcheck =>
      ⟨fun hapart => refused (stationRecord_overlap hk hcheck hapart), fun hapart hbusy =>
        refused (stationRecord_busy hk hcheck hapart (Bool.eq_false_iff.2 fun hidle => ?_))⟩⟩
    obtain ⟨hnone, hempty⟩ := (idleForStation_iff s).1 hidle
    rcases hbusy with ⟨p, x, hx⟩ | hqueue
    · exact nomatch (hnone p).symm.trans hx
    · exact hqueue hempty
  case plate =>
    intro s k hk g ends
    have refused : ∀ {code detail}, plateRecord s = s.result k code detail → exec .plate s = ends code detail :=
      exec_of_refusal (kind := .plate) hk
    refine ⟨fun hst => refused (plateRecord_noStation hk hst), fun st hst =>
      ⟨fun i hi => refused (plateRecord_badField hk hst hi), fun hcheck =>
        ⟨fun hapart => refused (plateRecord_overlap hk hst hcheck hapart), fun hapart hfull =>
          refused (plateRecord_noRoom hk hst hcheck hapart (Bool.eq_false_iff.2 fun hroom => ?_))⟩⟩⟩
    obtain ⟨hslots, htiles, hholds⟩ := (hasRoom_iff s g).1 hroom
    rcases hfull with hslots' | htiles' | hholds'
    · exact hslots hslots'
    · exact Nat.not_lt.2 htiles htiles'
    · exact Nat.not_lt.2 hholds hholds'
  case retake =>
    intro s k hk ends index
    have refused : ∀ {code detail}, retakeRecord s = s.result k code detail → exec .retake s = ends code detail :=
      exec_of_refusal (kind := .retake) hk
    refine ⟨fun hst => refused (retakeRecord_noStation hk hst), fun hst =>
      ⟨fun hslot => refused (retakeRecord_badSlot hk hst hslot), fun p hp =>
        ⟨fun hplate => refused (retakeRecord_wrongPlate hk hst hp hplate), fun plate hplate =>
          ⟨fun hbeyond => refused (retakeRecord_noTile hk hst hp hplate hbeyond), fun t tile hi ht =>
            ⟨fun hfinal => refused (retakeRecord_tileBusy hk hst hp hplate hi ht hfinal),
              fun hfinal hopen hfree => refused (retakeRecord_noHold hk hst hp hplate hi ht hfinal
                (holdForRow_false hopen hfree))⟩⟩⟩⟩⟩

end Sys2Proof.Machine
end

section
/-! PROOFS. The law of the report ring (O59): what it reads of the part, and each kind of change to the ring. -/

namespace Sys2Proof.Machine

/-! ### Around the ring (R186) -/

/-- How far an index lies forward from another one, around a ring of `n` places (R186). -/
def ahead (n c x : Nat) : Nat := (x + n - c) % n

theorem forwardFromC_eq (s : State) (n : Nat) : s.forwardFromC n = ahead n s.report.consume := rfl

theorem ahead_eq {n c x : Nat} (hc : c < n) (hx : x < n) : ahead n c x = if c ≤ x then x - c else x + n - c := by
  unfold ahead
  split
  · have hround : x + n - c = x - c + n := by omega
    rw [hround, Nat.add_mod_right, Nat.mod_eq_of_lt (by omega)]
  · exact Nat.mod_eq_of_lt (by omega)

theorem ahead_lt {n c : Nat} (x : Nat) (hc : c < n) : ahead n c x < n := Nat.mod_lt _ (by omega)

/-- The place after an index lies one further, unless it is the place that distances are taken from. -/
theorem ahead_next {n c x : Nat} (hc : c < n) (hx : x < n) (h : (x + 1) % n ≠ c) :
    ahead n c ((x + 1) % n) = ahead n c x + 1 := by
  rcases Nat.lt_or_eq_of_le (Nat.succ_le_of_lt hx) with hlt | hwrap
  · rw [Nat.mod_eq_of_lt hlt] at h ⊢
    rw [ahead_eq hc hlt, ahead_eq hc hx]
    split <;> split <;> omega
  · rw [show x + 1 = n from hwrap, Nat.mod_self] at h ⊢
    rw [ahead_eq hc (by omega), ahead_eq hc hx]
    split <;> split <;> omega

/-- From an index further on, all that lies beyond it lies nearer by as much. -/
theorem ahead_from {n c v x : Nat} (hc : c < n) (hv : v < n) (hx : x < n) (h : ahead n c v ≤ ahead n c x) :
    ahead n v x = ahead n c x - ahead n c v := by
  rw [ahead_eq hc hv, ahead_eq hc hx] at h
  rw [ahead_eq hc hv, ahead_eq hc hx, ahead_eq hv hx]
  split at h <;> split at h <;> split <;> simp_all <;> omega

/-! ### What the law reads -/

/-- The header writes of the current ring that stand in the PWQ: line and produce index, in queue order (R190). -/
def State.carriers (s : State) : List (Nat × Nat) := s.pwq.entries.filterMap fun e => e.header.map (e.line, ·)

/-- The indices that R186 puts in order: the drained produce index, those on their way through the PWQ, and P. -/
def State.trail (s : State) : List Nat := s.report.drained :: s.headersInQueue ++ [s.report.produce]

theorem headersInQueue_eq (s : State) : s.headersInQueue = s.carriers.map Prod.snd := by
  rw [State.headersInQueue, State.carriers, List.map_filterMap]
  congr 1
  funext e
  cases e.header <;> rfl

/-- What the law asks of header writes in the PWQ, by their list. -/
theorem carried_iff {s : State} {n base : Nat} :
    (∀ e ∈ s.pwq.entries, ∀ p, e.header = some p → p < n ∧ e.line = base) ↔ ∀ c ∈ s.carriers, c.2 < n ∧ c.1 = base := by
  simp only [State.carriers, List.mem_filterMap, Option.map_eq_some_iff]
  constructor
  · rintro h _ ⟨e, he, p, hp, rfl⟩
    exact h e he p hp
  · exact fun h e he p hp => h (e.line, p) ⟨e, he, p, hp, rfl⟩

/-- The ready list, the indices and IRQ. -/
def State.indices (s : State) : Nat × Nat × Nat × List ReadyLine × Bool :=
  (s.report.produce, s.report.drained, s.report.consume, s.report.ready, s.report.irq)

/-- A ready line of a take that has ended: the header line that it brought, or its result word (R176, R193). -/
def ReadyLine.ofTake : ReadyLine → Bool
  | .record => false
  | .header _ _ _ => false
  | .newHeader _ => true
  | .result => true

/-- The second state has the ring and the header writes of the first, its records at least, and a take that is ended still
when one of its lines is ready. -/
structure RingAlike (s t : State) : Prop where
  station : t.plan.station = s.plan.station
  indices : t.indices = s.indices
  records : s.report.queue <+: t.report.queue
  carriers : t.carriers = s.carriers
  due : (∃ l ∈ s.report.ready, l.ofTake = true) → s.resultDue = true → t.resultDue = true

section
variable {s t u : State}

theorem indices_iff : t.indices = s.indices ↔ t.report.produce = s.report.produce ∧ t.report.drained = s.report.drained
    ∧ t.report.consume = s.report.consume ∧ t.report.ready = s.report.ready ∧ t.report.irq = s.report.irq := by
  simp only [State.indices, Prod.mk.injEq]

theorem RingAlike.refl (s : State) : RingAlike s s := ⟨rfl, rfl, List.prefix_rfl, rfl, fun _ => id⟩

theorem RingAlike.trans (h : RingAlike s t) (g : RingAlike t u) : RingAlike s u where
  station := g.station.trans h.station
  indices := g.indices.trans h.indices
  records := h.records.trans g.records
  carriers := g.carriers.trans h.carriers
  due hl hdue := by
    obtain ⟨-, -, -, hready, -⟩ := indices_iff.1 h.indices
    exact g.due (by rwa [hready]) (h.due hl hdue)

/-! ### The law by what it reads -/

theorem RingLaw.trail_lt (law : RingLaw s) {st : Station} (hst : s.plan.station = some st) :
    ∀ x ∈ s.trail, x < st.capacity := by
  obtain ⟨hproduce, hdrained, -⟩ := law.indices st hst
  have hcarried := carried_iff.1 (law.carried st hst)
  intro x hx
  simp only [State.trail, headersInQueue_eq, List.cons_append, List.mem_cons, List.mem_append, List.mem_map,
    List.not_mem_nil, or_false] at hx
  rcases hx with rfl | ⟨c, hc, rfl⟩ | rfl
  · exact hdrained
  · obtain ⟨hbelow, -⟩ := hcarried c hc
    exact hbelow
  · exact hproduce

/-- The law asks the same of every new header line in the list. -/
theorem RingLaw.newHeader (law : RingLaw s) {st : Station} (hst : s.plan.station = some st) {base : Nat}
    (h : ReadyLine.newHeader base ∈ s.report.ready) :
    base = st.reportBase ∧ s.report.produce = 0 ∧ s.report.drained = 0 ∧ s.report.consume = 0 ∧ s.resultDue = true := by
  obtain ⟨before, behind, hready⟩ := List.append_of_mem h
  obtain ⟨hbase, hproduce, hdrained, hconsume, hdue, -⟩ := law.newRing st hst base before behind hready
  exact ⟨hbase, hproduce, hdrained, hconsume, hdue⟩

/-- A line of an ended take is ready only while the take waits for its result word. -/
theorem RingLaw.due_of_line (law : RingLaw s) {l : ReadyLine} (hl : l ∈ s.report.ready) (htake : l.ofTake = true) :
    s.resultDue = true := by
  cases l with
  | record => cases htake
  | header base p live => cases htake
  | result => exact (law.result hl).left
  | newHeader base =>
    cases hst : s.plan.station with
    | none => exact nomatch law.absent hst _ hl
    | some st =>
      obtain ⟨-, -, -, -, hdue⟩ := law.newHeader hst hl
      exact hdue

theorem RingLaw.alike (law : RingLaw s) (h : RingAlike s t) : RingLaw t := by
  obtain ⟨hproduce, hdrained, hconsume, hready, hirq⟩ := indices_iff.1 h.indices
  have hdue : ∀ l ∈ s.report.ready, l.ofTake = true → t.resultDue = true := fun l hl htake =>
    h.due ⟨l, hl, htake⟩ (law.due_of_line hl htake)
  constructor
  case irq => rw [hirq, hdrained, hconsume, law.irq]
  case absent =>
    rw [h.station, hready]
    exact law.absent
  case indices =>
    rw [h.station, hproduce, hdrained, hconsume]
    exact law.indices
  case order =>
    rw [h.station, headersInQueue_eq, h.carriers, ← headersInQueue_eq, hproduce, hdrained]
    simp only [forwardFromC_eq, hconsume]
    exact law.order
  case carried =>
    intro st hst
    rw [h.station] at hst
    rw [carried_iff, h.carriers, ← carried_iff]
    exact law.carried st hst
  case single =>
    rw [hready]
    exact law.single
  case record =>
    rw [h.station, hready, hproduce, hconsume]
    intro st hst hmem
    obtain ⟨hqueue, hfull⟩ := law.record st hst hmem
    exact ⟨fun hnil => hqueue (List.prefix_nil.1 (hnil ▸ h.records)), hfull⟩
  case written =>
    rw [h.station, hready, hproduce]
    exact law.written
  case newRing =>
    rw [h.station, hready, hproduce, hdrained, hconsume]
    intro st hst base before behind heq
    obtain ⟨hbase, hp, hd, hc, -, hbefore⟩ := law.newRing st hst base before behind heq
    exact ⟨hbase, hp, hd, hc, hdue (.newHeader base) (by simp [heq]) rfl, hbefore⟩
  case result =>
    rw [hready]
    intro hmem
    obtain ⟨-, hcount⟩ := law.result hmem
    exact ⟨hdue .result hmem rfl, hcount⟩

end

/-! ### The ready list (R189, R193) -/

section
variable {s : State} {l : ReadyLine}

/-- The state with another ready list. -/
def State.withReady (ready : List ReadyLine) (s : State) : State := { s with report := { s.report with ready := ready } }

/-- What the law asks of a line that joins the ready list. -/
structure MayJoin (s : State) (l : ReadyLine) : Prop where
  absent : s.plan.station = none → l = .result
  single : l.inHand = true → ∀ x ∈ s.report.ready, x.inHand = false
  record : l = .record → s.report.queue ≠ []
    ∧ ∀ st, s.plan.station = some st → (s.report.produce + 1) % st.capacity ≠ s.report.consume
  written : ∀ st, s.plan.station = some st → ∀ base p, l = .header base p true → base = st.reportBase ∧ p = s.report.produce
  notNew : ∀ base, l ≠ .newHeader base
  result : l = .result → s.resultDue = true ∧ ReadyLine.result ∉ s.report.ready

/-- A line that is put behind a list stands behind each of its lines. -/
theorem append_split {ready before behind : List ReadyLine} {x : ReadyLine} (hne : l ≠ x)
    (h : ready ++ [l] = before ++ x :: behind) : ∃ rest, ready = before ++ x :: rest := by
  rcases List.eq_nil_or_concat behind with rfl | ⟨rest, y, rfl⟩
  · exact absurd (List.append_inj_right' h rfl) (by simpa using hne)
  · refine ⟨rest, List.append_inj_left' (t₁ := [l]) (t₂ := [y]) ?_ rfl⟩
    simpa using h

theorem RingLaw.joined (law : RingLaw s) (h : MayJoin s l) : RingLaw (s.withReady (s.report.ready ++ [l])) where
  irq := law.irq
  absent hst x hx := by
    rcases List.mem_append.1 hx with hx | hx
    · exact law.absent hst x hx
    · exact (List.mem_singleton.1 hx).trans (h.absent hst)
  indices := law.indices
  order := law.order
  carried := law.carried
  single := by
    simp only [State.withReady, List.filter_append, List.length_append]
    by_cases hhand : l.inHand = true
    · have hnone : s.report.ready.filter (·.inHand) = [] :=
        List.filter_eq_nil_iff.2 fun x hx => by simp [h.single hhand x hx]
      rw [hnone, List.length_nil, Nat.zero_add]
      exact List.length_filter_le _ [l]
    · simpa [hhand] using law.single
  record st hst hmem := by
    rcases List.mem_append.1 hmem with hmem | hmem
    · exact law.record st hst hmem
    · obtain ⟨hqueue, hfull⟩ := h.record (List.mem_singleton.1 hmem).symm
      exact ⟨hqueue, hfull st hst⟩
  written st hst base p hmem := by
    rcases List.mem_append.1 hmem with hmem | hmem
    · exact law.written st hst base p hmem
    · exact h.written st hst base p (List.mem_singleton.1 hmem).symm
  newRing st hst base before behind heq := by
    obtain ⟨rest, hrest⟩ := append_split (h.notNew base) heq
    exact law.newRing st hst base before rest hrest
  result hmem := by
    rcases List.mem_append.1 hmem with hmem | hmem
    · obtain ⟨hdue, hcount⟩ := law.result hmem
      have hne : l ≠ .result := fun hl => (h.result hl).right hmem
      exact ⟨hdue, by simpa [State.withReady, List.count_append, hne] using hcount⟩
    · obtain ⟨hdue, hnot⟩ := h.result (List.mem_singleton.1 hmem).symm
      rw [List.mem_singleton.1 hmem] at hnot ⊢
      exact ⟨hdue, by simp [State.withReady, List.count_append, List.count_eq_zero.2 hnot]⟩

/-- The first line leaves the list. -/
theorem RingLaw.tail (law : RingLaw s) {rest : List ReadyLine} (hl : s.report.ready = l :: rest) :
    RingLaw (s.withReady rest) where
  irq := law.irq
  absent hst x hx := law.absent hst x (by simp [hl, show x ∈ rest from hx])
  indices := law.indices
  order := law.order
  carried := law.carried
  single := by
    have hsub : (rest.filter (·.inHand)).Sublist (s.report.ready.filter (·.inHand)) := by
      rw [hl]
      exact (List.sublist_cons_self l rest).filter _
    exact hsub.length_le.trans law.single
  record st hst hmem := law.record st hst (by simp [hl, show ReadyLine.record ∈ rest from hmem])
  written st hst base p hmem := law.written st hst base p (by simp [hl, show ReadyLine.header base p true ∈ rest from hmem])
  newRing st hst base before behind heq := by
    have hbehind : s.report.ready = (l :: before) ++ .newHeader base :: behind := hl.trans (congrArg (l :: ·) heq)
    obtain ⟨hbase, hp, hd, hc, hdue, hrecord, hresult⟩ := law.newRing st hst base _ behind hbehind
    exact ⟨hbase, hp, hd, hc, hdue, fun h => hrecord (List.mem_cons_of_mem l h),
      fun h => hresult (List.mem_cons_of_mem l h)⟩
  result (hmem : ReadyLine.result ∈ rest) := by
    obtain ⟨hdue, hcount⟩ := law.result (by simp [hl, hmem])
    have hpos := List.count_pos_iff.2 hmem
    rw [hl, List.count_cons] at hcount
    exact ⟨hdue, show rest.count .result = 1 by omega⟩

/-- With a record line first in the list, neither a line in hand nor a new header line stands behind it. -/
theorem RingLaw.behind_record (law : RingLaw s) {rest : List ReadyLine} (hl : s.report.ready = .record :: rest)
    {st : Station} (hst : s.plan.station = some st) :
    (∀ x ∈ rest, x.inHand = false) ∧ ∀ base, ReadyLine.newHeader base ∉ rest := by
  constructor
  · have hsingle := law.single
    rw [hl, List.filter_cons_of_pos rfl, List.length_cons] at hsingle
    have hnone : rest.filter (·.inHand) = [] := List.eq_nil_of_length_eq_zero (by omega)
    exact fun x hx => by simpa using List.filter_eq_nil_iff.1 hnone x hx
  · intro base hbase
    obtain ⟨before, behind, rfl⟩ := List.append_of_mem hbase
    obtain ⟨-, -, -, -, -, hrecord, -⟩ := law.newRing st hst base (.record :: before) behind hl
    exact hrecord (List.mem_cons_self ..)

/-- With a result word first in the list, no line of a take stands behind it. -/
theorem RingLaw.behind_result (law : RingLaw s) {rest : List ReadyLine} (hl : s.report.ready = .result :: rest) :
    ∀ x ∈ rest, x.ofTake = false := by
  intro x hx
  cases x with
  | record => rfl
  | header base p live => rfl
  | newHeader base =>
    cases hst : s.plan.station with
    | none => exact nomatch law.absent hst (.newHeader base) (by simp [hl, hx])
    | some st =>
      obtain ⟨before, behind, rfl⟩ := List.append_of_mem hx
      obtain ⟨-, -, -, -, -, -, hresult⟩ := law.newRing st hst base (.result :: before) behind hl
      exact absurd (List.mem_cons_self ..) hresult
  | result =>
    obtain ⟨-, hcount⟩ := law.result (by simp [hl])
    have hpos := List.count_pos_iff.2 hx
    rw [hl, List.count_cons_self] at hcount
    omega

end

end Sys2Proof.Machine
end

section
/-! PROOFS. The law of the report ring (O59) when an index moves, and when a ring begins. -/

namespace Sys2Proof.Machine

/-! ### Lists in order (R186) -/

/-- A last element may be replaced by one that is not lower. -/
theorem ordered_raise {l : List Nat} {x y : Nat} {f : Nat → Nat} (hxy : f x ≤ f y)
    (h : ((l ++ [x]).map f).Pairwise (· ≤ ·)) : ((l ++ [y]).map f).Pairwise (· ≤ ·) := by
  rw [List.pairwise_map, List.pairwise_append] at h ⊢
  obtain ⟨hl, -, hlast⟩ := h
  refine ⟨hl, List.pairwise_singleton _ _, fun a ha b hb => ?_⟩
  rw [List.mem_singleton.1 hb]
  exact (hlast a ha x (List.mem_singleton_self x)).trans hxy

/-- A last element may stand twice. -/
theorem ordered_twice {l : List Nat} {x : Nat} {f : Nat → Nat} (h : ((l ++ [x]).map f).Pairwise (· ≤ ·)) :
    (((l ++ [x]) ++ [x]).map f).Pairwise (· ≤ ·) := by
  rw [List.pairwise_map] at h ⊢
  refine List.pairwise_append.2 ⟨h, List.pairwise_singleton _ _, fun a ha b hb => ?_⟩
  obtain ⟨-, -, hlast⟩ := List.pairwise_append.1 h
  rw [List.mem_singleton.1 hb]
  rcases List.mem_append.1 ha with ha | ha
  · exact hlast a ha x (List.mem_singleton_self x)
  · rw [List.mem_singleton.1 ha]

/-! ### Header writes in the queue (R111, R190) -/

section
variable {s : State} {w : QWrite}

theorem mergeIf_line (e : Entry) : (e.mergeIf w).line = e.line := (mergeIf_same w e).line

theorem mergeIf_header_of_none (h : w.header = none) (e : Entry) : (e.mergeIf w).header = e.header := by
  unfold Entry.mergeIf
  split
  · simp [Entry.merge, h]
  · rfl

/-- Any other write leaves the header writes that stand in the queue. -/
theorem place_carriers (s : State) (h : w.header = none) :
    ({ s with pwq := s.pwq.place w } : State).carriers = s.carriers := by
  unfold State.carriers
  cases hw : s.pwq.hasWaiting w.line with
  | true =>
    simp only [place_merges hw, List.filterMap_map, Function.comp_def, mergeIf_line, mergeIf_header_of_none h]
  | false => simp [place_opens hw, newEntry, h]

/-- A header write comes to stand last among the header writes: it opens an entry at the tail, or merges into the one entry
of the header line that is WAITING, behind which no header write stands. -/
theorem place_header {p : Nat} (pwq : PwqLaw s) (h : w.header = some p)
    (hlines : ∀ e ∈ s.pwq.entries, e.line ≠ w.line → e.header = none) :
    ∃ kept, kept.Sublist s.carriers
      ∧ ({ s with pwq := s.pwq.place w } : State).carriers = kept ++ [(w.line, p)] := by
  unfold State.carriers
  cases hw : s.pwq.hasWaiting w.line with
  | false => exact ⟨_, List.Sublist.refl _, by simp [place_opens hw, newEntry, h]⟩
  | true =>
    obtain ⟨e, he, hline, hwaits⟩ := (hasWaiting_iff _ _).1 hw
    obtain ⟨a, b, hq⟩ := List.append_of_mem he
    have hother : (∀ x ∈ a, ¬x.takes w.line = true) ∧ ∀ x ∈ b, ¬x.takes w.line = true := by
      have hwaiting := pwq.waiting
      rw [hq, List.pairwise_append, List.pairwise_cons] at hwaiting
      obtain ⟨-, ⟨hb, -⟩, ha⟩ := hwaiting
      constructor
      · intro x hx htakes
        obtain ⟨hxline, hxwaits⟩ := (takes_iff x _).1 htakes
        exact ha x hx e (List.mem_cons_self ..) ⟨hxwaits, hwaits, hxline.trans hline.symm⟩
      · intro x hx htakes
        obtain ⟨hxline, hxwaits⟩ := (takes_iff x _).1 htakes
        exact hb x hx ⟨hwaits, hxwaits, hline.trans hxline.symm⟩
    obtain ⟨hbefore, hbehind⟩ := hother
    have hnone : ∀ x ∈ b, x.header = none := fun x hx => by
      have htail : x ∈ s.pwq.entries.tail := by
        rw [hq]
        cases a <;> simp [hx]
      refine hlines x (List.mem_of_mem_tail htail) fun hxline => hbehind x hx ?_
      exact (takes_iff x _).2 ⟨hxline, pwq.head x htail⟩
    have hkeeps : ∀ {l : List Entry}, (∀ x ∈ l, ¬x.takes w.line = true) → l.map (Entry.mergeIf w) = l := fun hl =>
      (List.map_congr_left fun x hx => if_neg (hl x hx)).trans (List.map_id _)
    have hmerge : e.mergeIf w = e.merge w := if_pos ((takes_iff e _).2 ⟨hline, hwaits⟩)
    have hplaced : (s.pwq.place w).entries = a ++ e.merge w :: b := by
      rw [place_merges hw]
      simp only [hq, List.map_append, List.map_cons, hkeeps hbefore, hkeeps hbehind, hmerge]
    have hrest : b.filterMap (fun x => x.header.map (x.line, ·)) = [] :=
      List.filterMap_eq_nil_iff.2 fun x hx => by simp [hnone x hx]
    refine ⟨a.filterMap fun x => x.header.map (x.line, ·), ?_, ?_⟩
    · rw [hq]
      exact (List.sublist_append_left a _).filterMap _
    · simp only [hplaced, List.filterMap_append, List.filterMap_cons, hrest]
      simp [Entry.merge, h, hline]

/-- The header write of the ring carries P to the tail of the header writes (R189, R190). -/
theorem RingLaw.headed (law : RingLaw s) (pwq : PwqLaw s)
    (h : ∀ st, s.plan.station = some st → w.line = st.reportBase ∧ w.header = some s.report.produce) :
    RingLaw { s with pwq := s.pwq.place w } := by
  have hplaced : ∀ st, s.plan.station = some st → ∃ kept, kept.Sublist s.carriers
      ∧ ({ s with pwq := s.pwq.place w } : State).carriers = kept ++ [(st.reportBase, s.report.produce)] :=
    fun st hst => by
      obtain ⟨hline, hheader⟩ := h st hst
      rw [← hline]
      refine place_header pwq hheader fun e he hne => Option.eq_none_iff_forall_ne_some.2 fun p hp => hne ?_
      obtain ⟨-, hbase⟩ := law.carried st hst e he p hp
      exact hbase.trans hline.symm
  refine ⟨law.irq, law.absent, law.indices, fun st hst => ?_, fun st hst => ?_, law.single, law.record, law.written,
    law.newRing, law.result⟩
  · obtain ⟨kept, hkept, heq⟩ := hplaced st hst
    have horder := law.order st hst
    rw [headersInQueue_eq] at horder ⊢
    rw [heq, List.map_append (f := Prod.snd)]
    have hsub : (s.report.drained :: kept.map Prod.snd ++ [s.report.produce]).Sublist
        (s.report.drained :: s.carriers.map Prod.snd ++ [s.report.produce]) :=
      ((hkept.map Prod.snd).cons_cons _).append (List.Sublist.refl _)
    have htwice := ordered_twice (horder.sublist (hsub.map _))
    exact htwice
  · obtain ⟨kept, hkept, heq⟩ := hplaced st hst
    obtain ⟨hproduce, -⟩ := law.indices st hst
    have hcarried := carried_iff.1 (law.carried st hst)
    rw [carried_iff, heq, List.forall_mem_append, List.forall_mem_singleton]
    exact ⟨fun c hc => hcarried c (hkept.subset hc), hproduce, rfl⟩

end

/-! ### Indices that move -/

section
variable {s : State} {st : Station}

/-- A record line has entered at place P, and P moves on to a place that is not C's (R189). -/
theorem RingLaw.advanced (law : RingLaw s) (hst : s.plan.station = some st) (hhand : ∀ l ∈ s.report.ready, l.inHand = false)
    (hnew : ∀ base, ReadyLine.newHeader base ∉ s.report.ready)
    (hfull : (s.report.produce + 1) % st.capacity ≠ s.report.consume) (queue : List Record) :
    RingLaw { s with report := { s.report with
      queue := queue, dropped := false, produce := (s.report.produce + 1) % st.capacity } } := by
  obtain ⟨hproduce, hdrained, hconsume⟩ := law.indices st hst
  have hsame : ∀ {st'}, s.plan.station = some st' → st' = st := fun hst' => Option.some_inj.1 (hst'.symm.trans hst)
  constructor
  case irq => exact law.irq
  case absent => exact law.absent
  case indices =>
    intro st' hst'
    rw [hsame hst']
    exact ⟨Nat.mod_lt _ (by omega), hdrained, hconsume⟩
  case order =>
    intro st' hst'
    rw [hsame hst']
    refine ordered_raise ?_ (law.order st hst)
    simp only [forwardFromC_eq]
    exact (Nat.le_succ _).trans (ahead_next hconsume hproduce hfull).ge
  case carried => exact law.carried
  case single => exact law.single
  case record => exact fun _ _ hmem => nomatch hhand _ hmem
  case written => exact fun _ _ _ _ hmem => nomatch hhand _ hmem
  case newRing =>
    intro st' hst' base before behind heq
    refine absurd ?_ (hnew base)
    rw [show s.report.ready = _ from heq]
    simp
  case result => exact law.result

/-- While a new header line waits, the ring it begins holds nothing: no index lies beyond C (R193). -/
theorem RingLaw.new_ring_empty (law : RingLaw s) (hst : s.plan.station = some st) {base x : Nat}
    (hnew : ReadyLine.newHeader base ∈ s.report.ready) (hx : x < st.capacity)
    (hle : ahead st.capacity s.report.consume x ≤ ahead st.capacity s.report.consume s.report.produce) : x = 0 := by
  obtain ⟨-, hproduce, -, hconsume, -⟩ := law.newHeader hst hnew
  rw [hproduce, hconsume, ahead_eq (by omega) hx, ahead_eq (by omega) (by omega)] at hle
  simpa using hle

/-- In order, the drained produce index is the least and P the greatest. -/
theorem RingLaw.trail_bounds (law : RingLaw s) (hst : s.plan.station = some st) :
    ∀ x ∈ s.trail, ahead st.capacity s.report.consume s.report.drained ≤ ahead st.capacity s.report.consume x
      ∧ ahead st.capacity s.report.consume x ≤ ahead st.capacity s.report.consume s.report.produce := by
  have horder : s.trail.Pairwise fun x y =>
      ahead st.capacity s.report.consume x ≤ ahead st.capacity s.report.consume y := List.pairwise_map.1 (law.order st hst)
  intro x hx
  constructor
  · have hfirst := horder
    rw [State.trail, List.cons_append, List.pairwise_cons] at hfirst
    rw [State.trail, List.cons_append, List.mem_cons] at hx
    rcases hx with rfl | hx
    · exact Nat.le_refl _
    · exact hfirst.left x hx
  · rw [State.trail, List.pairwise_append] at horder
    obtain ⟨-, -, hlast⟩ := horder
    rw [State.trail, List.mem_append, List.mem_singleton] at hx
    rcases hx with hx | rfl
    · exact hlast x hx _ (List.mem_singleton_self _)
    · exact Nat.le_refl _

/-- A consume value that is taken moves C no further than the drained produce index (R192). -/
theorem RingLaw.consumed (law : RingLaw s) (hst : s.plan.station = some st) {v : Nat}
    (hv : consumeValid st.capacity s.report.drained s.report.consume v = true) :
    RingLaw { s with report := { s.report with consume := v, irq := s.report.drained != v } } := by
  obtain ⟨hproduce, hdrained, hconsume⟩ := law.indices st hst
  have hsame : ∀ {st'}, s.plan.station = some st' → st' = st := fun hst' => Option.some_inj.1 (hst'.symm.trans hst)
  obtain ⟨hlt, hle⟩ : v < st.capacity
      ∧ ahead st.capacity s.report.consume v ≤ ahead st.capacity s.report.consume s.report.drained := by
    simpa [consumeValid, ahead] using hv
  have hbounds := law.trail_bounds hst
  have hbelow := law.trail_lt hst
  have hnearer : ∀ x ∈ s.trail, ahead st.capacity v x
      = ahead st.capacity s.report.consume x - ahead st.capacity s.report.consume v := fun x hx =>
    ahead_from hconsume hlt (hbelow x hx) (hle.trans (hbounds x hx).left)
  have hlast : ahead st.capacity s.report.consume s.report.drained
      ≤ ahead st.capacity s.report.consume s.report.produce := (hbounds _ (by simp [State.trail])).left
  constructor
  case irq => exact bne_iff_ne
  case absent => exact law.absent
  case indices =>
    intro st' hst'
    rw [hsame hst']
    exact ⟨hproduce, hdrained, hlt⟩
  case order =>
    intro st' hst'
    rw [hsame hst']
    refine List.pairwise_map.2 ((List.pairwise_map.1 (law.order st hst)).imp_of_mem fun {x y} hx hy hxy => ?_)
    simp only [forwardFromC_eq] at hxy ⊢
    rw [hnearer x hx, hnearer y hy]
    exact Nat.sub_le_sub_right hxy _
  case carried => exact law.carried
  case single => exact law.single
  case record =>
    intro st' hst' hmem
    rw [hsame hst']
    obtain ⟨hqueue, hfull⟩ := law.record st hst hmem
    refine ⟨hqueue, fun heq => ?_⟩
    have hnext := ahead_next hconsume hproduce hfull
    rw [show (s.report.produce + 1) % st.capacity = v from heq] at hnext
    omega
  case written => exact law.written
  case newRing =>
    intro st' hst' base before behind heq
    obtain ⟨hbase, hp, hd, -, hrest⟩ := law.newRing st' hst' base before behind heq
    have hnew : ReadyLine.newHeader base ∈ s.report.ready := by
      rw [show s.report.ready = _ from heq]
      simp
    exact ⟨hbase, hp, hd, law.new_ring_empty hst hnew hlt (hle.trans hlast), hrest⟩
  case result => exact law.result

/-- The head entry leaves, and the header that it carries moves the drained produce index (R117, R190). -/
theorem RingLaw.drained (law : RingLaw s) {e : Entry} {rest : List Entry} (hq : s.pwq.entries = e :: rest) :
    RingLaw (s.withoutHead e rest) := by
  have hqueue : s.carriers = (e.header.map (e.line, ·)).toList ++ (s.withoutHead e rest).carriers := by
    simp only [State.carriers, hq, State.withoutHead]
    cases h : e.header <;> simp [h]
  cases hheader : e.header with
  | none =>
    refine law.alike ⟨rfl, ?_, ?_, ?_, fun _ hdue => hdue⟩
    · simp only [State.indices, State.withoutHead, hheader]
    · simp only [State.withoutHead, hheader, List.prefix_rfl]
    · rw [hqueue, hheader]
      rfl
  | some p =>
    have hindices : (s.withoutHead e rest).report = { s.report with drained := p, irq := decide (p ≠ s.report.consume) } := by
      simp only [State.withoutHead, hheader]
    have htrail : s.trail = s.report.drained :: (s.withoutHead e rest).trail := by
      simp only [State.trail, headersInQueue_eq, hqueue, hheader, hindices]
      rfl
    have hp : p ∈ s.trail := by
      rw [htrail]
      simp [State.trail, hindices]
    constructor
    case irq => simp [hindices]
    case absent =>
      rw [hindices]
      exact law.absent
    case indices =>
      rw [hindices]
      intro st hst
      obtain ⟨hproduce, -, hconsume⟩ := law.indices st hst
      exact ⟨hproduce, law.trail_lt hst p hp, hconsume⟩
    case order =>
      intro st hst
      have horder : (s.trail.map (s.forwardFromC st.capacity)).Pairwise (· ≤ ·) := law.order st hst
      rw [htrail, List.map_cons] at horder
      have hsame : (s.withoutHead e rest).forwardFromC st.capacity = s.forwardFromC st.capacity := by
        simp only [forwardFromC_eq, hindices]
      rw [hsame]
      exact horder.of_cons
    case carried =>
      intro st hst
      have hcarried := carried_iff.1 (law.carried st hst)
      rw [carried_iff]
      exact fun c hc => hcarried c (by rw [hqueue]; exact List.mem_append_right _ hc)
    case single =>
      rw [hindices]
      exact law.single
    case record =>
      rw [hindices]
      exact law.record
    case written =>
      rw [hindices]
      exact law.written
    case newRing =>
      rw [hindices]
      intro st hst base before behind heq
      obtain ⟨hbase, hproduce, -, hrest⟩ := law.newRing st hst base before behind heq
      have hnew : ReadyLine.newHeader base ∈ s.report.ready := by
        rw [show s.report.ready = _ from heq]
        simp
      exact ⟨hbase, hproduce, law.new_ring_empty hst hnew (law.trail_lt hst p hp) (law.trail_bounds hst p hp).right, hrest⟩
    case result =>
      rw [hindices]
      exact law.result

end

/-! ### A ring begins -/

theorem reset_ringLaw (lines : StageLines) (straps : BitVec 12) (s : State) : RingLaw (powerOnReset lines straps s) where
  irq := by simp [powerOnReset, State.resetWith]
  absent _ _ h := nomatch h
  indices _ h := nomatch h
  order _ h := nomatch h
  carried _ h := nomatch h
  single := Nat.zero_le 1
  record _ h := nomatch h
  written _ h := nomatch h
  newRing _ h := nomatch h
  result h := nomatch h

section
variable {s : State} {st : Station}

theorem toOldRing_inHand (l : ReadyLine) : l.toOldRing.inHand = l.inHand := by cases l <;> rfl

/-- With no record queued and no result word due, only a header write can be ready. -/
theorem RingLaw.only_headers (law : RingLaw s) (hqueue : s.report.queue = []) (hdue : s.resultDue = false) :
    ∀ l ∈ s.report.ready, ∃ base p live, l = .header base p live := by
  intro l hl
  have htake : l.ofTake ≠ true := fun h => by simp [law.due_of_line hl h] at hdue
  cases l with
  | record =>
    cases hst : s.plan.station with
    | none => exact nomatch law.absent hst _ hl
    | some st => exact absurd hqueue (law.record st hst hl).left
  | header base p live => exact ⟨base, p, live, rfl⟩
  | newHeader base => exact absurd rfl htake
  | result => exact absurd rfl htake

theorem newRing_carriers (s : State) (st : Station) : (s.newRing st).carriers = [] := by
  simp [State.carriers, Entry.toOldRing]

/-- R193: the new ring is empty; header writes of the old ring count no more, and the new header line stands behind them. -/
theorem RingLaw.begun (law : RingLaw s) (hqueue : s.report.queue = []) (hdue : s.resultDue = false) {k : Take}
    (hk : s.plan.take = some k) (result : Word) (hcap : 0 < st.capacity) :
    RingLaw ((State.newRing st { s with plan := { s.plan with station := some st } }).finishTake result) := by
  have hold : ∀ l ∈ s.report.ready.map ReadyLine.toOldRing, ∃ base p, l = .header base p false := fun l hl => by
    obtain ⟨x, hx, rfl⟩ := List.mem_map.1 hl
    obtain ⟨base, p, live, rfl⟩ := law.only_headers hqueue hdue x hx
    exact ⟨base, p, rfl⟩
  have hnot : ∀ l, (∀ base p, l ≠ .header base p false) → l ∉ s.report.ready.map ReadyLine.toOldRing := fun l hne hl => by
    obtain ⟨base, p, rfl⟩ := hold l hl
    exact hne base p rfl
  have hcarriers := newRing_carriers { s with plan := { s.plan with station := some st } } st
  constructor
  case irq => exact iff_of_false Bool.false_ne_true fun h => h rfl
  case absent => exact fun h => nomatch h
  case indices =>
    intro st' hst'
    cases hst'
    exact ⟨hcap, hcap, hcap⟩
  case order =>
    intro st' hst'
    cases hst'
    have hheaders : State.headersInQueue
        ((State.newRing st { s with plan := { s.plan with station := some st } }).finishTake result) = [] := by
      rw [headersInQueue_eq]
      exact congrArg _ hcarriers
    rw [hheaders]
    exact List.pairwise_pair.2 (Nat.le_refl _)
  case carried =>
    intro st' _
    rw [carried_iff]
    exact fun c hc => absurd (hcarriers ▸ hc) List.not_mem_nil
  case single =>
    show ((s.report.ready.map ReadyLine.toOldRing ++ [ReadyLine.newHeader st.reportBase]).filter ReadyLine.inHand).length ≤ 1
    rw [List.filter_append, List.filter_map, List.length_append, List.length_map]
    simp only [Function.comp_def, toOldRing_inHand]
    exact law.single
  case record =>
    intro st' _ hmem
    rcases List.mem_append.1 hmem with hmem | hmem
    · exact absurd hmem (hnot _ nofun)
    · exact nomatch List.mem_singleton.1 hmem
  case written =>
    intro st' _ base p hmem
    rcases List.mem_append.1 hmem with hmem | hmem
    · exact absurd hmem (hnot _ nofun)
    · exact nomatch List.mem_singleton.1 hmem
  case newRing =>
    intro st' hst' base before behind heq
    cases hst'
    obtain ⟨rfl, hbase, -⟩ := (List.append_cons_inj_of_notMem (hnot (.newHeader base) nofun) List.not_mem_nil).1 heq
    cases hbase
    exact ⟨rfl, rfl, rfl, rfl, (resultDue_iff _).2 ⟨{ k with step := .finished result }, result, by simp [hk], rfl⟩,
      hnot _ nofun, hnot _ nofun⟩
  case result =>
    intro hmem
    rcases List.mem_append.1 hmem with hmem | hmem
    · exact absurd hmem (hnot _ nofun)
    · exact nomatch List.mem_singleton.1 hmem

end

end Sys2Proof.Machine
end

section
/-! PROOFS. The law of the report ring (O59): the operations that leave the ring and its header writes as they are. -/

namespace Sys2Proof.Machine

section
variable {s t : State}

theorem resultDue_congr (h : t.plan.take = s.plan.take) : t.resultDue = s.resultDue := by
  rw [Bool.eq_iff_iff, resultDue_iff, resultDue_iff, h]

theorem ringAlike_of_carriers (hplan : t.plan = s.plan) (hreport : t.report = s.report)
    (hcarriers : t.carriers = s.carriers) : RingAlike s t where
  station := by rw [hplan]
  indices := by simp only [State.indices, hreport]
  records := by rw [hreport]
  carriers := hcarriers
  due _ hdue := (resultDue_congr (by rw [hplan])).trans hdue

/-- An operation that leaves the Plan Reader, the Report Writer and the PWQ leaves what the law reads. -/
theorem ringAlike_of_report (h : t.plan = s.plan ∧ t.report = s.report ∧ t.pwq = s.pwq) : RingAlike s t := by
  obtain ⟨hplan, hreport, hpwq⟩ := h
  exact ringAlike_of_carriers hplan hreport (by simp only [State.carriers, hpwq])

theorem RingAlike.andThen {u : State} (h : RingAlike s t)
    (hsame : u.plan = t.plan ∧ u.report = t.report ∧ u.pwq = t.pwq) : RingAlike s u :=
  h.trans (ringAlike_of_report hsame)

/-- While no result word is due, the take may change. -/
theorem ringAlike_of_noResult (hdue : s.resultDue = false) (hstation : t.plan.station = s.plan.station)
    (hsame : t.report = s.report ∧ t.pwq = s.pwq) : RingAlike s t := by
  obtain ⟨hreport, hpwq⟩ := hsame
  constructor
  case station => exact hstation
  case indices => simp only [State.indices, hreport]
  case records => rw [hreport]
  case carriers => simp only [State.carriers, hpwq]
  case due => exact fun _ h => nomatch hdue.symm.trans h

/-- Entries that keep their line and header keep the header writes. -/
theorem carriers_map {f : Entry → Entry} (hf : ∀ e, (f e).line = e.line ∧ (f e).header = e.header)
    (h : t.pwq.entries = s.pwq.entries.map f) : t.carriers = s.carriers := by
  simp only [State.carriers, h, List.filterMap_map, Function.comp_def, hf]

end

theorem foldl_ringAlike {α : Type} (g : State → α → State) (h : ∀ s x, RingAlike s (g s x)) (l : List α) (s : State) :
    RingAlike s (l.foldl g s) :=
  foldl_inv (RingAlike s) g (fun _ x hs => hs.trans (h _ x)) l s (.refl s)

section
variable (s : State)

/-! ### Records and places (R187, R188) -/

theorem offer_ringAlike (r : Record) : RingAlike s (s.offer r) := by
  unfold State.offer
  split
  · exact .refl s
  · split
    · exact ⟨rfl, rfl, List.prefix_append _ _, rfl, fun _ => id⟩
    · exact ⟨rfl, rfl, List.prefix_rfl, rfl, fun _ => id⟩

theorem queueEssential_ringAlike (r : Record) : RingAlike s (s.queueEssential r) :=
  ⟨rfl, rfl, List.prefix_append _ _, rfl, fun _ => id⟩

theorem giveUp_ringAlike (n : Nat) : RingAlike s (s.giveUp n) := ⟨rfl, rfl, List.prefix_rfl, rfl, fun _ => id⟩

theorem reserve_ringAlike (n : Nat) : RingAlike s (s.reserve n) := ⟨rfl, rfl, List.prefix_rfl, rfl, fun _ => id⟩

theorem forwardStale_ringAlike (cause : StaleCause) (r : HeldRead) : RingAlike s (s.forwardStale cause r) :=
  (ringAlike_of_report (s := s) (t := s.forward (r.toRead true)) (by simp)).trans (offer_ringAlike _ _)

theorem takeOutStale_ringAlike (cause : StaleCause) (p : HeldRead → Bool) :
    RingAlike s (s.takeOut p (State.forwardStale cause)) :=
  (ringAlike_of_report (s := s) (t := { s with hold := { s.hold with queue := s.hold.queue.filter (!p ·) } })
    (by simp)).trans (foldl_ringAlike _ (fun s r => forwardStale_ringAlike s cause r) _ _)

theorem dismissHolds_ringAlike (hs : List HoldNo) : RingAlike s (s.dismissHolds hs) :=
  (foldl_ringAlike _ (fun _ _ => ringAlike_of_report (by simp)) hs s).trans (takeOutStale_ringAlike _ .dismiss _)

/-! ### Plates, tiles and fences (02) -/

theorem finishPlate_ringAlike (p : SlotNo) : RingAlike s (s.finishPlate p) := by
  unfold State.finishPlate
  split
  · exact giveUp_ringAlike s 1
  · split
    · exact (ringAlike_of_report (t := s.modPlate p _) (by simp)).trans (queueEssential_ringAlike _ _)
    · exact giveUp_ringAlike s 1

theorem endTile_ringAlike (t : TileNo) (tile : Tile) (final : TileState) (count : Plate → Plate) (r : Record) :
    RingAlike s (s.endTile t tile final count r) :=
  ((ringAlike_of_report (s := s)
    (t := ((s.setTile t (some { tile with state := final, reservation := 0 })).modPlate tile.slot count).finishBand
      tile.slot tile.row) (by simp)).trans (queueEssential_ringAlike _ r)).trans (finishPlate_ringAlike _ _)

theorem clearRefs_ringAlike (ts : List TileNo) : RingAlike s (s.clearRefs ts) :=
  ringAlike_of_carriers rfl rfl
    (carriers_map (fun e => ⟨(dropRef_same ts e).line, by unfold Entry.dropRef; split <;> rfl⟩) rfl)

theorem freePlate_ringAlike (p : SlotNo) (done failed : Nat) : RingAlike s (s.freePlate p done failed) := by
  unfold State.freePlate
  split
  · exact .refl s
  · next plate _ =>
    have hfreed := (queueEssential_ringAlike s (.plateDismissed p plate.tag done failed)).trans
      (foldl_ringAlike (fun u t => u.setTile t none) (fun _ _ => ringAlike_of_report (by simp)) plate.tiles _)
    exact (hfreed.trans (clearRefs_ringAlike _ plate.tiles)).andThen (by simp)

theorem freeIfDone_ringAlike (p : SlotNo) : RingAlike s (s.freeIfDone p) := by
  unfold State.freeIfDone
  split
  · split
    · split
      · exact freePlate_ringAlike s p _ _
      · exact .refl s
    · exact .refl s
  · exact .refl s

theorem deliverFence_ringAlike (t : TileNo) : RingAlike s (s.deliverFence t) := by
  unfold State.deliverFence
  split
  · exact .refl s
  split
  · split <;> exact endTile_ringAlike s _ _ _ _ _
  · exact endTile_ringAlike s _ _ _ _ _
  · exact (ringAlike_of_report (t := s.setTile t _) (by simp)).trans (freeIfDone_ringAlike _ _)
  · exact .refl s

theorem putFence_ringAlike (id : Nat) (t : TileNo) : RingAlike s (s.putFence id t) :=
  ringAlike_of_carriers rfl rfl
    (carriers_map (fun e => ⟨(withFence_same id t e).line, by unfold Entry.withFence; split <;> rfl⟩) rfl)

theorem closeCurrent_ringAlike (t : TileNo) (tile : Tile) (o : ClosingOutcome) (heat : Option Nat) :
    RingAlike s (s.closeCurrent t tile o heat) := by
  have hleave : RingAlike s (s.setTile t (some { tile with state := .closing o heat })).leave :=
    ringAlike_of_report (by simp)
  unfold State.closeCurrent State.placeFence
  split
  · exact hleave.trans (putFence_ringAlike _ _ _)
  · exact hleave.trans (deliverFence_ringAlike _ _)

theorem abort_ringAlike (r : Reason) : RingAlike s (s.abort r) := by
  unfold State.abort
  split
  · exact .refl s
  split
  · exact closeCurrent_ringAlike s _ _ _ _
  · next t tile _ _ _ =>
    have hleave : RingAlike s (s.setTile t (some (tile.aborted r))).leave := ringAlike_of_report (by simp)
    exact (hleave.trans (queueEssential_ringAlike _ _)).trans (giveUp_ringAlike _ 1)

theorem exposureTimerExpiry_ringAlike : RingAlike s (exposureTimerExpiry s) := by
  unfold exposureTimerExpiry
  split
  · exact .refl s
  split
  · exact .refl s
  · exact abort_ringAlike s _

theorem discardCurrent_ringAlike (p : SlotNo) : RingAlike s (s.discardCurrent p) := by
  unfold State.discardCurrent
  split
  · exact .refl s
  split
  · exact closeCurrent_ringAlike s _ _ _ _
  · exact .refl s

theorem giveUpTile_ringAlike (t : TileNo) : RingAlike s (s.giveUpTile t) := by
  unfold State.giveUpTile
  split
  · exact .refl s
  · next tile _ => exact (giveUp_ringAlike s tile.reservation).andThen (by simp)

theorem discardPlate_ringAlike (p : SlotNo) (plate : Plate) : RingAlike s (s.discardPlate p plate) := by
  have htiles := (foldl_ringAlike (fun u t => u.modTile t Tile.discard)
    (fun _ _ => ringAlike_of_report (by simp)) plate.tiles s).trans (foldl_ringAlike (fun u t => u.giveUpTile t) giveUpTile_ringAlike plate.tiles _)
  have hheld := htiles.trans (dismissHolds_ringAlike _ (plate.bandHolds.filterMap id))
  unfold State.discardPlate
  exact RingAlike.trans (hheld.andThen (by simp)) (freeIfDone_ringAlike _ p)

theorem acceptDismiss_ringAlike (p : SlotNo) (plate : Plate) : RingAlike s (s.acceptDismiss p plate) := by
  have hreserved : RingAlike s (s.modPlate p fun pl => { pl with dismissReserved := true }) := ringAlike_of_report (by simp)
  unfold State.acceptDismiss
  simp only []
  split
  · exact hreserved.trans (freePlate_ringAlike _ p _ _)
  · exact (hreserved.trans (discardCurrent_ringAlike _ p)).trans (discardPlate_ringAlike _ p plate)
  · exact hreserved

/-! ### The take (09) -/

/-- A take that ends goes on waiting for a result word. -/
theorem finishTake_resultDue (w : Word) : (s.finishTake w).resultDue = s.plan.take.isSome := by
  rw [Bool.eq_iff_iff, resultDue_iff]
  cases hk : s.plan.take with
  | none => simp [hk]
  | some k => simp [hk]

theorem finishTake_ringAlike (w : Word) : RingAlike s (s.finishTake w) :=
  ⟨rfl, rfl, List.prefix_rfl, rfl, fun _ hdue => by
    obtain ⟨k, -, hk, -⟩ := (resultDue_iff s).1 hdue
    rw [finishTake_resultDue, hk]
    rfl⟩

theorem result_ringAlike (k : Take) (code : Code) (d : Nat) : RingAlike s (s.result k code d) := finishTake_ringAlike s _

theorem dismissReservation_ringAlike : RingAlike s (dismissReservation s) := by
  unfold dismissReservation
  split
  · exact .refl s
  · exact ((reserve_ringAlike s 1).trans (acceptDismiss_ringAlike _ _ _)).trans (result_ringAlike _ _ _ _)

theorem plateRecord_ringAlike : RingAlike s (plateRecord s) := by
  unfold plateRecord
  split
  · exact .refl s
  split
  · exact result_ringAlike s _ _ _
  split
  · exact result_ringAlike s _ _ _
  split
  · exact result_ringAlike s _ _ _
  split
  · exact result_ringAlike s _ _ _
  split
  · exact result_ringAlike s _ _ _
  · next p _ _ => exact (ringAlike_of_report (t := s.acceptPlate p _) (by simp)).trans (result_ringAlike _ _ _ _)

theorem retakeRecord_ringAlike : RingAlike s (retakeRecord s) := by
  unfold retakeRecord
  split
  · exact .refl s
  split
  · exact result_ringAlike s _ _ _
  split
  · exact result_ringAlike s _ _ _
  next p _ =>
  split
  · exact result_ringAlike s _ _ _
  split
  · exact result_ringAlike s _ _ _
  next t tile _ =>
  split
  · exact result_ringAlike s _ _ _
  split
  · exact result_ringAlike s _ _ _
  · exact (ringAlike_of_report (t := s.acceptRetake p t tile) (by simp)).trans (result_ringAlike _ _ _ _)

/-- A take at another step than its end has no result word due. -/
theorem resultDue_of_step {s : State} {k : Take} (hk : s.plan.take = some k) (hstep : ∀ w, k.step ≠ .finished w) :
    s.resultDue = false := by
  rw [← Bool.not_eq_true, resultDue_iff]
  rintro ⟨k', w, hk', hw⟩
  rw [hk, Option.some.injEq] at hk'
  subst hk'
  exact hstep w hw

theorem resultDue_of_fetched {s : State} {kind : Kind} {k : Take} (h : s.fetched kind = some k) : s.resultDue = false := by
  obtain ⟨hk, hstep, -⟩ := fetched_some h
  exact resultDue_of_step hk (by simp [hstep])

theorem dismissRecord_ringAlike : RingAlike s (dismissRecord s) := by
  unfold dismissRecord
  split
  · exact .refl s
  next hk =>
  split
  · exact result_ringAlike s _ _ _
  split
  · exact result_ringAlike s _ _ _
  split
  · exact result_ringAlike s _ _ _
  · exact ringAlike_of_noResult (resultDue_of_fetched hk) rfl (by simp)

theorem search_ringAlike : RingAlike s s.search := by
  unfold State.search
  split
  · next k hnone _ =>
    rw [startTake_eq]
    exact ringAlike_of_noResult (by simp [State.resultDue, hnone]) rfl ⟨rfl, rfl⟩
  · exact .refl s

/-- A line read is answered only while its slot is FETCHING, so no result word is due (R172). -/
theorem fetchResponds_ringAlike {s : State} (law : AssemblyLaw s) (st : DownStatus) (d : List Word) :
    RingAlike s (s.fetchResponds st d) := by
  unfold State.fetchResponds
  split
  · next line k hline hk =>
    have hfetching : k.step = .fetching := by
      by_contra hne
      have hidle := law.fetches k hk hne
      rw [hline] at hidle
      cases hidle
    have hdue := resultDue_of_step hk (by simp [hfetching])
    cases st with
    | fault => exact ringAlike_of_noResult hdue rfl (by simp)
    | ok =>
      simp only [State.postRead, State.lineRead]
      split
      · split <;> exact ringAlike_of_noResult hdue rfl (by simp)
      · split <;> exact ringAlike_of_noResult hdue rfl (by simp)
  · exact .refl s

/-! ### Arming (03) -/

theorem offerStray_ringAlike : RingAlike s s.offerStray := by
  unfold State.offerStray
  split
  · exact (offer_ringAlike s (.strayCapture s.merge.stray)).andThen (by simp)
  · exact .refl s

theorem armTile_ringAlike (t : TileNo) (plate : Plate) (tile : Tile) : RingAlike s (s.armTile t plate tile) := by
  have hreserved : RingAlike s (s.armedFor t plate tile) := (reserve_ringAlike s 2).andThen ⟨rfl, rfl, rfl⟩
  have harmed := hreserved.trans (offerStray_ringAlike _)
  cases h : s.lamp.on with
  | true => rwa [armTile_lampOn t plate tile h]
  | false =>
    rw [armTile_lampOff t plate tile h]
    exact harmed.andThen (by simp)

theorem arming_ringAlike : RingAlike s (arming s) := by
  unfold arming
  split
  · split
    · exact .refl s
    · split
      · exact .refl s
      · exact armTile_ringAlike s _ _ _
  · exact .refl s

/-! ### Writes of the masters (05) -/

theorem placeAll_ringAlike (ws : List QWrite) (s : State) (h : ∀ w ∈ ws, w.header = none) : RingAlike s (s.placeAll ws) := by
  induction ws generalizing s with
  | nil => exact .refl s
  | cons w ws ih =>
    rw [List.forall_mem_cons] at h
    obtain ⟨hw, hws⟩ := h
    have hone : RingAlike s (s.placeOne w) := ringAlike_of_carriers rfl rfl (place_carriers s hw)
    exact hone.trans (ih _ hws)

theorem queueWrites_header {s : State} {c : WriteClass} {w : WriteReq} {q : QWrite} (h : q ∈ s.queueWrites c w) :
    q.header = none := by
  have hline : ∀ {ws source ref}, q ∈ (lineWrite ws source ref).toList → q.header = none := fun hq => by
    obtain ⟨-, -, hheader, -⟩ := lineWrite_some (Option.mem_toList.1 hq)
    exact hheader
  by_cases hc : c = .capture
  · subst hc
    rw [State.queueWrites, writes_eq, List.mem_append, List.mem_append] at h
    rcases h with (h | h) | h <;> exact hline h
  · by_cases hr : c = .heldWrite
    · subst hr
      cases h
    · rw [queueWrites_plain c hc hr] at h
      exact hline h

theorem handOver_ringAlike (sc : Scan) : RingAlike s (s.handOver sc) := by
  unfold State.handOver
  split
  · next t tile plate _ _ =>
    by_cases hskip : s.merge.exposure + 1 < plate.bracket.length ∧ s.merge.dark ≠ 0
    · rw [completeFrame_arms hskip]
      exact ringAlike_of_report (by simp)
    · rw [completeFrame_closes hskip]
      exact closeCurrent_ringAlike s _ _ _ _
  · exact .refl s

theorem enterWrite_ringAlike (c : WriteClass) (w : WriteReq) : RingAlike s (s.enterWrite c w) := by
  have hplaced : RingAlike s (s.placeAll (s.queueWrites c w)) := placeAll_ringAlike _ s fun _ => queueWrites_header
  by_cases hc : c = .capture
  · subst hc
    exact (hplaced.trans (ringAlike_of_report (by simp))).trans (handOver_ringAlike _ _)
  · rwa [enterWrite_plain c hc]

/-- The port takes no part in it. -/
theorem enterWrite_atPort_ringAlike (c : WriteClass) (w : WriteReq) (p : Port) (held : Bool) :
    RingAlike s ((s.atPort p held).enterWrite c w) := by
  have hport : RingAlike s (s.atPort p held) := ringAlike_of_report ⟨rfl, rfl, rfl⟩
  exact hport.trans (enterWrite_ringAlike _ c w)

theorem postWrite_ringAlike (c : WriteClass) (w : WriteReq) : RingAlike s (s.postWrite c w) := by
  cases h : s.canPlace (s.queueWrites c w) with
  | false =>
    rw [postWrite_held h]
    exact ringAlike_of_report ⟨rfl, rfl, rfl⟩
  | true =>
    rw [postWrite_enters h]
    exact (enterWrite_atPort_ringAlike s c w _ _).trans (ringAlike_of_report ⟨rfl, rfl, rfl⟩)

theorem postFlag_ringAlike (k : PlanSlot) (v : Word) : RingAlike s (s.postFlag k v) := by
  unfold State.postFlag
  split
  · exact .refl s
  · exact ⟨rfl, rfl, List.prefix_rfl, rfl, fun _ => id⟩

theorem heldWriteEntry_ringAlike : RingAlike s (heldWriteEntry s) := by
  cases hheld : s.port.held with
  | none =>
    rw [heldWriteEntry_none hheld]
    exact .refl s
  | some x =>
    cases hmay : s.heldMayEnter (s.queueWrites x.cls x.req) with
    | false =>
      rw [heldWriteEntry_waits hheld hmay]
      exact .refl s
    | true =>
      rw [heldWriteEntry_enters hheld hmay]
      have hfreed : RingAlike s (s.freed x.req.master) := ringAlike_of_report ⟨rfl, rfl, rfl⟩
      have hentered := hfreed.trans (enterWrite_atPort_ringAlike _ x.cls x.req
        { s.port with held := none, turn := s.turnAfter (s.queueWrites x.cls x.req) } (s.freed x.req.master).seq.captureHeld)
      exact hentered.andThen (by simp)

/-! ### Reads, grants and responses (04, 06) -/

theorem presentRead_ringAlike (r : ReadReq) : RingAlike s (s.presentRead r) := by
  unfold State.presentRead
  split
  · exact ringAlike_of_report (by simp)
  split
  · exact .refl s
  have hflag : RingAlike s { s with port := { s.port with outstanding := s.port.outstanding.set r.master true } } :=
    ringAlike_of_report (by simp)
  unfold State.decodeRead
  simp only []
  split
  · refine hflag.trans ?_
    unfold State.heldReadArrives
    simp only []
    split
    · exact forwardStale_ringAlike _ _ _
    · exact ringAlike_of_report (by simp)
  · exact hflag.trans (ringAlike_of_report (by simp))

theorem grant_carriers (c : ArbClass) : (s.grant c).carriers = s.carriers := by
  cases c with
  | read =>
    simp only [State.grant, State.grantRead]
    split <;> rfl
  | drain =>
    simp only [State.grant, State.grantDrain]
    split
    · rfl
    · next hq => simp only [State.carriers, issue_pwq, hq, List.filterMap_cons]
  | fetch =>
    simp only [State.grant, State.grantFetch]
    split <;> rfl

theorem arbiterGrant_ringAlike : RingAlike s (arbiterGrant s) := by
  refine ringAlike_of_carriers (by simp) (by simp) ?_
  unfold arbiterGrant
  split
  · rfl
  · rw [grant_carriers]
    simp [State.carriers]

theorem readResponds_ringAlike (m : Master) (st : DownStatus) (d : List Word) : RingAlike s (s.readResponds m st d) := by
  unfold State.readResponds
  split
  · exact .refl s
  · cases st <;> exact ringAlike_of_report (by simp)

theorem charge_ringAlike (e : Entry) : RingAlike s (s.charge e) := by
  unfold State.charge
  split
  · exact ringAlike_of_report (by simp)
  split
  · exact ⟨rfl, rfl, List.prefix_rfl, rfl, fun _ => id⟩
  · exact offer_ringAlike s _

theorem deliverOf_ringAlike (e : Entry) : RingAlike s (s.deliverOf e) := by
  unfold State.deliverOf
  split
  · exact .refl s
  · exact deliverFence_ringAlike s _

/-! ### Stage, sequencer, lamp and clock (03, 07, 08) -/

theorem decodeAxis_ringAlike (ax : Axis) : RingAlike s (s.decodeAxis ax) := by
  have hcheck : ∀ {u : State}, RingAlike s u → RingAlike s (u.checkTolerance ax) := fun {u} hu => by
    unfold State.checkTolerance
    split
    · exact hu.trans (abort_ringAlike u _)
    · exact hu
  unfold State.decodeAxis
  simp only []
  split
  · exact ringAlike_of_report (by simp)
  · exact hcheck (ringAlike_of_report (by simp))
  · exact hcheck (ringAlike_of_report (by simp))
  · split
    · exact ((ringAlike_of_report (t := { s with stage := s.stage.takeRef ax }) (by simp)).trans (offer_ringAlike _ _)).trans
        (abort_ringAlike _ _)
    · exact ringAlike_of_report (by simp)

theorem homeEdge_ringAlike (ax : Axis) : RingAlike s (homeEdge ax s) := by
  unfold homeEdge
  split
  · exact .refl s
  · simp only []
    split
    · exact (ringAlike_of_report (t := { s with stage := s.stage.setHome ax true }) (by simp)).trans (abort_ringAlike _ _)
    · exact (ringAlike_of_report (t := State.count ax 0 { s with stage := s.stage.setHome ax true }) (by simp)).trans
        (abort_ringAlike _ _)

theorem fallingHomeEdge_ringAlike (ax : Axis) : RingAlike s (fallingHomeEdge ax s) := by
  unfold fallingHomeEdge
  split
  · exact ringAlike_of_report (by simp)
  · exact .refl s

theorem cutRise_ringAlike : RingAlike s (cutRise s) := by
  unfold cutRise
  split
  · exact .refl s
  · exact ((ringAlike_of_report (t := s.setCut true) (by simp)).trans (offer_ringAlike _ _)).trans (abort_ringAlike _ _)

theorem cutFall_ringAlike : RingAlike s (cutFall s) := by
  unfold cutFall
  split
  · exact (ringAlike_of_report (t := s.setCut false) (by simp)).trans (offer_ringAlike _ _)
  · exact .refl s

theorem lineEvent_ringAlike (c : Instr) : RingAlike s (lineEvent c s) := by
  unfold lineEvent
  split
  · exact (ringAlike_of_report (t := { s with stage := s.stage.flip _ _ }) (by simp)).trans (decodeAxis_ringAlike _ _)
  · exact (ringAlike_of_report (t := { s with stage := (s.stage.flip _ .a).flip _ .b }) (by simp)).trans
      (decodeAxis_ringAlike _ _)
  · exact homeEdge_ringAlike s _
  · exact fallingHomeEdge_ringAlike s _
  · exact cutRise_ringAlike s
  · exact cutFall_ringAlike s
  · exact .refl s

theorem periodEnd_ringAlike : RingAlike s (periodEnd s) := by
  unfold periodEnd
  split
  · exact ringAlike_of_report (by simp)
  · exact .refl s

theorem settleExpiry_ringAlike : RingAlike s (settleExpiry s) := by
  unfold settleExpiry
  split
  · split
    · exact ringAlike_of_report (by simp)
    · exact .refl s
  · exact .refl s

theorem triggerPulseEnd_ringAlike : RingAlike s (triggerPulseEnd s) := by
  unfold triggerPulseEnd
  split
  · exact .refl s
  · exact ringAlike_of_report (by simp)

theorem deferredTrigger_ringAlike : RingAlike s (deferredTrigger s) := by
  unfold deferredTrigger
  split
  · exact .refl s
  · split
    · exact ringAlike_of_report (by simp)
    · exact .refl s

theorem dwellExpiry_ringAlike : RingAlike s (dwellExpiry s) := by
  unfold dwellExpiry
  split
  · exact ringAlike_of_report (by simp)
  · exact .refl s

theorem noteWait_ringAlike : RingAlike s s.noteWait := ⟨rfl, rfl, List.prefix_rfl, rfl, fun _ => id⟩

theorem advance_ringAlike (k : Ticks) : RingAlike s (s.advance k) := by
  have hwhen : ∀ {u : State} (c : Bool) (f : State → State), (∀ v, RingAlike v (f v)) → RingAlike s u →
      RingAlike s (if c then f u else u) := fun c f hf hu => by
    split
    · exact hu.trans (hf _)
    · exact hu
  have hsample : RingAlike s (State.draw 1 { s.countClk k with stage := s.stage.sample s.rawLines }) := by
    unfold State.countClk
    split <;> exact ringAlike_of_report (by simp)
  have hlamp : ∀ u : State, RingAlike u u.lampTick := fun u => by
    unfold State.lampTick
    split
    · exact ringAlike_of_report (by simp)
    · exact .refl u
  exact hwhen _ _ hlamp (hwhen _ _ (fun _ => ringAlike_of_report (by simp))
    (hwhen _ _ (fun _ => ringAlike_of_report ⟨rfl, rfl, rfl⟩) hsample))

end

end Sys2Proof.Machine
end

section
/-! PROOFS. The law of the report ring (O59) through every step: the operations that move the ring, then each command, then
the step. -/

namespace Sys2Proof.Machine

section
variable {s : State}

/-! ### The levels (R176, R189) -/

theorem mayTake_joins (h : s.MayTakeRecord) : MayJoin s .record := by
  obtain ⟨st, hst, hqueue, hhand, hfull⟩ := h
  constructor
  case absent => exact fun hnone => nomatch hnone.symm.trans hst
  case single => exact fun _ x hx => by simpa using List.find?_eq_none.1 hhand x hx
  case record => exact fun _ => ⟨hqueue, fun st' hst' => Option.some_inj.1 (hst.symm.trans hst') ▸ hfull⟩
  case written => exact nofun
  case notNew => exact nofun
  case result => exact nofun

theorem takeInHand_ringLaw (law : RingLaw s) : RingLaw s.takeInHand := by
  by_cases h : s.MayTakeRecord
  · rw [takeInHand_takes h]
    exact law.joined (mayTake_joins h)
  · rwa [takeInHand_stays h]

theorem refresh_ringLaw (law : RingLaw s) : RingLaw (refresh s) :=
  (takeInHand_ringLaw law).alike ⟨rfl, rfl, List.prefix_rfl, rfl, fun _ => id⟩

theorem presentResult_ringLaw (law : RingLaw s) : RingLaw s.presentResult := by
  unfold State.presentResult
  split
  · next h =>
    simp only [Bool.and_eq_true, Bool.not_eq_true', List.contains_eq_mem, decide_eq_false_iff_not] at h
    exact law.joined ⟨fun _ => rfl, nofun, nofun, nofun, nofun, fun _ => h⟩
  · exact law

theorem conclude_ringLaw (law : RingLaw s) : RingLaw (conclude s) :=
  (presentResult_ringLaw law).alike (noteWait_ringAlike _)

/-! ### Writes (R191, R192) -/

theorem consumeValue_ringLaw (v : Word) (law : RingLaw s) : RingLaw (s.consumeValue v) := by
  unfold State.consumeValue
  split
  · exact law
  next st hst =>
  split
  · next hv => exact law.consumed hst hv
  · exact law

theorem decodeWrite_ringLaw (w : WriteReq) (law : RingLaw s) : RingLaw (s.decodeWrite w) := by
  unfold State.decodeWrite
  split
  · next k v _ =>
    have hpost := (postFlag_ringAlike s k v).trans (postWrite_ringAlike _ (.post k v) w)
    simp only []
    split
    · exact law.alike hpost
    · exact law.alike (hpost.trans (search_ringAlike _))
  · exact (consumeValue_ringLaw _ law).alike (postWrite_ringAlike _ _ w)
  · exact law.alike (postWrite_ringAlike s _ w)
  · have hanswered : RingAlike s (s.answer w.master .fault []) := ringAlike_of_report (by simp)
    exact law.alike (hanswered.trans (offer_ringAlike _ _))
  · exact law.alike (postWrite_ringAlike s _ w)

theorem presentWrite_ringLaw (w : WriteReq) (law : RingLaw s) : RingLaw (s.presentWrite w) := by
  unfold State.presentWrite
  split
  · exact law.alike (ringAlike_of_report (by simp))
  split
  · exact law
  split
  · exact law
  · exact decodeWrite_ringLaw w law

/-! ### Lines that enter (R176, R189) -/

/-- A line that has entered has left the list. -/
theorem enterReady_ringLaw {q : QWrite} {l : ReadyLine} {rest : List ReadyLine}
    (law : RingLaw { s with pwq := s.pwq.place q }) (hl : s.report.ready = l :: rest) : RingLaw (s.enterReady q) := by
  refine (law.tail hl).alike ⟨rfl, ?_, List.prefix_rfl, rfl, fun _ => id⟩
  simp only [State.indices, enterReady_report, hl, List.tail_cons]
  rfl

/-- The write of a line that is no header write of the ring has entered. -/
theorem enterReady_ringLaw_plain {q : QWrite} {l : ReadyLine} {rest : List ReadyLine} (law : RingLaw s)
    (hq : q.header = none) (hl : s.report.ready = l :: rest) : RingLaw (s.enterReady q) :=
  enterReady_ringLaw (law.alike (ringAlike_of_carriers rfl rfl (place_carriers s hq))) hl

theorem recordLineEntry_ringLaw (law : RingLaw s) : RingLaw (recordLineEntry s) := by
  unfold recordLineEntry
  split
  · next rest st r rs hl hst hqueue =>
    split
    · obtain ⟨-, hfull⟩ := law.record st hst (by simp [hl])
      obtain ⟨hhand, hnew⟩ := law.behind_record hl hst
      have hready : (s.enterReady (recordWrite st s.report.produce r s.report.dropped)).report.ready = rest := by
        rw [enterReady_report, hl, List.tail_cons]
      have hmoved := (enterReady_ringLaw_plain law (q := recordWrite st s.report.produce r s.report.dropped) rfl hl).advanced
        hst (by rwa [hready]) (by rwa [hready]) hfull rs
      refine hmoved.joined (l := .header st.reportBase ((s.report.produce + 1) % st.capacity) true) ?_
      constructor
      case absent => exact fun hnone => nomatch hnone.symm.trans hst
      case single => exact fun _ x hx => hhand x (hready ▸ hx)
      case record => exact nofun
      case written =>
        intro st' hst' base p heq
        cases hst'.symm.trans hst
        cases heq
        exact ⟨rfl, rfl⟩
      case notNew => exact nofun
      case result => exact nofun
    · exact law
  · exact law

theorem headerLineEntry_ringLaw (pwq : PwqLaw s) (law : RingLaw s) : RingLaw (headerLineEntry s) := by
  unfold headerLineEntry
  split
  · next base p live rest hl =>
    split
    · cases live with
      | false => exact enterReady_ringLaw_plain law rfl hl
      | true =>
        refine enterReady_ringLaw (law.headed pwq fun st hst => ?_) hl
        obtain ⟨hbase, hp⟩ := law.written st hst base p (by simp [hl])
        exact ⟨hbase, congrArg some hp⟩
    · exact law
  · next base rest hl =>
    split
    · refine enterReady_ringLaw (law.headed pwq fun st hst => ?_) hl
      obtain ⟨hbase, hproduce, -⟩ := law.newHeader hst (base := base) (by simp [hl])
      exact ⟨hbase, congrArg some hproduce.symm⟩
    · exact law
  · exact law

theorem endTake_station (s : State) (k : Take) : (s.endTake k).plan.station = s.plan.station :=
  (search_ringAlike _).station

theorem resultWordEntry_ringLaw (law : RingLaw s) : RingLaw (resultWordEntry s) := by
  unfold resultWordEntry
  split
  · next rest k hl _ =>
    split
    · next w _ =>
      split
      · have hready : (s.enterReady (resultWrite (s.postWord k.slot) w)).report.ready = rest := by
          rw [enterReady_report, hl, List.tail_cons]
        refine (enterReady_ringLaw_plain law (q := resultWrite (s.postWord k.slot) w) rfl hl).alike ?_
        refine ⟨endTake_station _ k, by simp [State.indices], by simp, by simp [State.carriers], ?_⟩
        rintro ⟨l, hmem, htake⟩ -
        rw [hready] at hmem
        exact nomatch (law.behind_result hl l hmem).symm.trans htake
      · exact law
    · exact law
  · exact law

/-! ### Responses (R117, R118, R190) -/

theorem drainResponds_ok_ringLaw (law : RingLaw s) : RingLaw (s.drainResponds .ok) := by
  cases hq : s.pwq.entries with
  | nil =>
    simp only [State.drainResponds, hq]
    exact law
  | cons e rest =>
    by_cases hd : e.state = .draining
    · have hok : s.drainResponds .ok = State.deliverOf e _ := drainResponds_head .ok hq hd
      rw [hok, leaves_eq_withoutHead]
      exact (law.drained hq).alike (deliverOf_ringAlike _ e)
    · simp only [State.drainResponds, hq, hd, if_false]
      exact law

theorem drainResponds_ringLaw (st : DownStatus) (law : RingLaw s) : RingLaw (s.drainResponds st) := by
  cases st with
  | ok => exact drainResponds_ok_ringLaw law
  | fault =>
    cases hq : s.pwq.entries with
    | nil =>
      simp only [State.drainResponds, hq]
      exact law
    | cons e rest =>
      by_cases hd : e.state = .draining
      · rw [drainResponds_fault hq hd]
        exact drainResponds_ok_ringLaw (law.alike (charge_ringAlike s e))
      · simp only [State.drainResponds, hq, hd, if_false]
        exact law

theorem responds_ringLaw (assembly : AssemblyLaw s) (id : Ident) (st : DownStatus) (d : List Word) (law : RingLaw s) :
    RingLaw (s.responds id st d) := by
  cases id with
  | master m => exact law.alike (readResponds_ringAlike s m st d)
  | fetch => exact law.alike (fetchResponds_ringAlike assembly st d)
  | drain => exact drainResponds_ringLaw st law

end

/-! ### STATION (R178, R193) -/

/-- What leaves the ring and the take leaves them with the take ended. -/
theorem RingAlike.finishTake {u v : State} (h : RingAlike u v) (hplan : v.plan = u.plan) (w : Word) :
    RingAlike (u.finishTake w) (v.finishTake w) where
  station := h.station
  indices := h.indices
  records := h.records
  carriers := h.carriers
  due _ hdue := by rwa [finishTake_resultDue, hplan, ← finishTake_resultDue u w]

theorem takeInHand_finishTake (u : State) (w : Word) : u.takeInHand.finishTake w = (u.finishTake w).takeInHand := by
  by_cases h : u.MayTakeRecord
  · rw [takeInHand_takes h, takeInHand_takes (s := u.finishTake w) h]
    rfl
  · rw [takeInHand_stays h, takeInHand_stays (s := u.finishTake w) h]

/-- The law holds of the state with its take ended. -/
def State.RingOnceEnded (w : Word) (s : State) : Prop := RingLaw (s.finishTake w)

theorem RingAlike.ringOnceEnded {u v : State} {w : Word} (h : RingAlike u v) (hplan : v.plan = u.plan)
    (law : u.RingOnceEnded w) : v.RingOnceEnded w :=
  RingLaw.alike law (h.finishTake hplan w)

theorem refresh_ringOnceEnded {u : State} {w : Word} (law : u.RingOnceEnded w) : (refresh u).RingOnceEnded w := by
  have hhand : u.takeInHand.RingOnceEnded w := by
    rw [State.RingOnceEnded, takeInHand_finishTake]
    exact takeInHand_ringLaw law
  have hlevels : RingAlike u.takeInHand (refresh u) := ⟨rfl, rfl, List.prefix_rfl, rfl, fun _ => id⟩
  exact hlevels.ringOnceEnded rfl hhand

/-- The take that brought the record ends in the same step, behind the filters that complete. -/
theorem completeFilters_ringOnceEnded {s : State} (w : Word) (law : s.RingOnceEnded w) : s.completeFilters.RingOnceEnded w := by
  refine foldl_inv (State.RingOnceEnded w) _ (fun u c hu => ?_) _ _ ?_
  · exact refresh_ringOnceEnded ((lineEvent_ringAlike u c).ringOnceEnded (lineEvent_plan c u) hu)
  · exact (ringAlike_of_report (s := s) (by simp)).ringOnceEnded rfl law

theorem stationChecks_capacity {ws : List Word} (h : firstFailing (stationChecks ws) = none) :
    0 < (stationOf ws).capacity := by
  have hcheck : ([16, 32, 64, 128, 256, 512, 1024].contains (stationOf ws).capacity
      && decide ((stationOf ws).reportBase + 32 + 32 * (stationOf ws).capacity ≤ 2 ^ 32)) = true :=
    (firstFailing_none_iff _).1 h _ (List.mem_of_getElem? (i := 5) rfl)
  rw [Bool.and_eq_true, List.contains_iff_mem] at hcheck
  obtain ⟨hlisted, -⟩ := hcheck
  have hpositive : ∀ n ∈ [16, 32, 64, 128, 256, 512, 1024], 0 < n := by decide
  exact hpositive _ hlisted

theorem stationRecord_ringLaw {s : State} (law : RingLaw s) : RingLaw (stationRecord s) := by
  unfold stationRecord
  split
  · exact law
  next k hk =>
  simp only []
  split
  · exact law.alike (result_ringAlike s _ _ _)
  next hcheck =>
  split
  · exact law.alike (result_ringAlike s _ _ _)
  split
  · exact law.alike (result_ringAlike s _ _ _)
  next hidle =>
  obtain ⟨-, hqueue⟩ := (idleForStation_iff s).1 (by simpa using hidle)
  obtain ⟨htake, -⟩ := fetched_some hk
  refine completeFilters_ringOnceEnded _ ?_
  have hlamp : ∀ (u : State) (st : Station), RingAlike u (u.restartDwell.lampStation st)
      ∧ (u.restartDwell.lampStation st).plan = u.plan := fun u st => by
    have hplan : (u.restartDwell.lampStation st).plan = u.plan := by simp [State.lampStation]
    exact ⟨ringAlike_of_report ⟨hplan, by simp [State.lampStation], by simp [State.lampStation]⟩, hplan⟩
  have hbegun : State.RingOnceEnded (resultWord k.kindField .accepted 0)
      (State.newRing (stationOf k.body) { s with plan := { s.plan with station := some (stationOf k.body) } }) :=
    law.begun hqueue (resultDue_of_fetched hk) htake _ (stationChecks_capacity hcheck)
  obtain ⟨halike, hplan⟩ := hlamp _ _
  refine halike.ringOnceEnded hplan ?_
  exact hbegun.alike ⟨rfl, rfl, List.prefix_rfl, rfl, fun _ => id⟩

/-! ### The step -/

section
variable {s : State}

theorem effect_ringLaw (c : Instr) (pwq : PwqLaw s) (assembly : AssemblyLaw s) (law : RingLaw s) : RingLaw (effect c s) := by
  cases c with
  | powerOnReset lines straps => exact reset_ringLaw lines straps s
  | upstreamRequestFault r =>
    cases r with
    | read r => exact law.alike (presentRead_ringAlike s r)
    | write w => exact presentWrite_ringLaw w law
  | post w => exact presentWrite_ringLaw w law
  | withdrawal w => exact presentWrite_ringLaw w law
  | consume w => exact presentWrite_ringLaw w law
  | capture w => exact presentWrite_ringLaw w law
  | heldWrite w => exact presentWrite_ringLaw w law
  | heldRead r => exact law.alike (presentRead_ringAlike s r)
  | plainWrite w => exact presentWrite_ringLaw w law
  | plainRead r => exact law.alike (presentRead_ringAlike s r)
  | heldWriteEntry => exact law.alike (heldWriteEntry_ringAlike s)
  | arbiterGrant => exact law.alike (arbiterGrant_ringAlike s)
  | drainRetireOk => exact drainResponds_ringLaw .ok law
  | drainRetireFault => exact drainResponds_ringLaw .fault law
  | upstreamReadResponse m st data => exact law.alike (readResponds_ringAlike s m st data)
  | fetchResponse st data => exact law.alike (fetchResponds_ringAlike assembly st data)
  | unmatchedResponse id st data => exact responds_ringLaw assembly id st data law
  | station => exact stationRecord_ringLaw law
  | plate => exact law.alike (plateRecord_ringAlike s)
  | retake => exact law.alike (retakeRecord_ringAlike s)
  | dismiss => exact law.alike (dismissRecord_ringAlike s)
  | dismissReservation => exact law.alike (dismissReservation_ringAlike s)
  | resultWordEntry => exact resultWordEntry_ringLaw law
  | recordLineEntry => exact recordLineEntry_ringLaw law
  | headerLineEntry => exact headerLineEntry_ringLaw pwq law
  | arming => exact law.alike (arming_ringAlike s)
  | periodEnd => exact law.alike (periodEnd_ringAlike s)
  | settleExpiry => exact law.alike (settleExpiry_ringAlike s)
  | triggerPulseEnd => exact law.alike (triggerPulseEnd_ringAlike s)
  | deferredTrigger => exact law.alike (deferredTrigger_ringAlike s)
  | exposureTimerExpiry => exact law.alike (exposureTimerExpiry_ringAlike s)
  | holdTimerExpiry m => exact law.alike (takeOutStale_ringAlike s .timeout (·.master == m))
  | validTransition ax line => exact law.alike (lineEvent_ringAlike s (.validTransition ax line))
  | invalidTransition ax => exact law.alike (lineEvent_ringAlike s (.invalidTransition ax))
  | homeEdge ax => exact law.alike (homeEdge_ringAlike s ax)
  | dwellExpiry => exact law.alike (dwellExpiry_ringAlike s)
  | cutRise => exact law.alike (cutRise_ringAlike s)
  | cutFall => exact law.alike (cutFall_ringAlike s)
  | idleTimerExpiry => exact law.alike (ringAlike_of_report (t := idleTimerExpiry s) (by simp))
  | heatTick => exact law.alike (ringAlike_of_report (t := heatTick s) (by simp))
  | fallingHomeEdge ax => exact law.alike (fallingHomeEdge_ringAlike s ax)

/-- The law of the ring with the two laws that it is kept under. -/
structure RingLaws (s : State) : Prop where
  pwq : PwqLaw s
  assembly : AssemblyLaw s
  ring : RingLaw s

/-- An operation that leaves the queue as it is and the tables out of sight. -/
theorem RingLaws.onwards {t : State} (laws : RingLaws s) (hpwq : t.pwq = s.pwq) (h : Alike s t) (ring : RingLaw t) :
    RingLaws t :=
  ⟨laws.pwq.congr hpwq, h.assembly laws.assembly, ring⟩

theorem refresh_ringLaws (laws : RingLaws s) : RingLaws (refresh s) :=
  laws.onwards (by simp) (alike_of_sight (refresh_sight s)) (refresh_ringLaw laws.ring)

theorem effect_ringLaws (c : Instr) (laws : RingLaws s) : RingLaws (effect c s) where
  pwq := effect_pwqLaw c laws.pwq
  assembly := (effect_moves c s).keeps Move.assembly laws.assembly
  ring := effect_ringLaw c laws.pwq laws.assembly laws.ring

theorem heatStep_ringLaws (laws : RingLaws s) : RingLaws (heatStep s) where
  pwq := laws.pwq.congr (by simp)
  assembly := (heatStep_moves s).keeps Move.assembly laws.assembly
  ring := laws.ring.alike (ringAlike_of_report (by simp))

end

theorem step_ringLaws {s t : State} (laws : RingLaws s) (h : step s = .next t) : RingLaws t :=
  step_keeps RingLaws
    (fun _ _ hs => hs.onwards rfl (alike_of_sight rfl) (hs.ring.alike (ringAlike_of_report ⟨rfl, rfl, rfl⟩)))
    (fun k s hs => hs.onwards (advance_pwq k s) (advance_alike k s) (hs.ring.alike (advance_ringAlike s k)))
    (fun n s hs => hs.onwards rfl (alike_of_sight (draw_sight s n)) (hs.ring.alike (ringAlike_of_report (by simp))))
    (fun c _ hs => refresh_ringLaws (effect_ringLaws c hs)) (fun _ hs => refresh_ringLaws (heatStep_ringLaws hs))
    (fun _ hs => refresh_ringLaws hs)
    (fun s hs => hs.onwards (by simp) (alike_of_sight (conclude_sight s)) (conclude_ringLaw hs.ring)) s t laws h

/-- A record line in hand has a place that is not C's, so one more record goes unconsumed, N − 1 at most (R189). -/
theorem RingLaw.record_fits {s : State} {st : Station} (law : RingLaw s) (hst : s.plan.station = some st)
    (hrecord : ReadyLine.record ∈ s.report.ready) :
    s.forwardFromC st.capacity ((s.report.produce + 1) % st.capacity) = s.forwardFromC st.capacity s.report.produce + 1
      ∧ s.forwardFromC st.capacity s.report.produce + 1 ≤ st.capacity - 1 := by
  obtain ⟨hproduce, -, hconsume⟩ := law.indices st hst
  obtain ⟨-, hfull⟩ := law.record st hst hrecord
  simp only [forwardFromC_eq]
  have hnext := ahead_next hconsume hproduce hfull
  have hlt := ahead_lt ((s.report.produce + 1) % st.capacity) hconsume
  exact ⟨hnext, by omega⟩

/-- Settles O59: each operation leaves what the law reads (`RingAlike`) or moves the ring in one of a few ways: a line joins
or leaves the ready list, an index moves, a ring begins. -/
theorem everyStepKeepsTheRingLaw : Obligations.EveryStepKeepsTheRingLaw := by
  unfold Obligations.EveryStepKeepsTheRingLaw
  exact ⟨fun s t pwq assembly law h => (step_ringLaws ⟨pwq, assembly, law⟩ h).ring,
    fun s st law hst hrecord => law.record_fits hst hrecord⟩

end Sys2Proof.Machine
end

section
/-! PROOFS. The Report Ring's other rules: the consume value (O13), a droppable record (O15), and what the ring's lines
carry (O24). -/

namespace Sys2Proof.Machine

/-! ### A droppable record (R188) -/

/-- Settles O15, by the branches of the offer. -/
theorem droppableRecordIsQueuedOrDropped : Obligations.DroppableRecordIsQueuedOrDropped := by
  unfold Obligations.DroppableRecordIsQueuedOrDropped
  intro r s
  cases hst : s.plan.station with
  | none => exact ⟨fun _ => by rw [State.offer, hst], nofun, nofun⟩
  | some st =>
    have hoffer : s.offer r = if s.report.used < Config.reportPlaces
        then { s with report := { s.report with queue := s.report.queue ++ [r] } }
        else { s with report := { s.report with dropped := true } } := by
      rw [State.offer, hst]
    refine ⟨nofun, fun _ hfree => ?queued, fun _ hfull => ?dropped⟩
    case queued => exact hoffer.trans (if_pos hfree)
    case dropped => exact hoffer.trans (if_neg (Nat.not_lt.2 hfull))

/-! ### The consume value (R191, R192) -/

/-- The distance around the ring, as the spec writes it. -/
theorem ahead_cast {n c : Nat} (x : Nat) (hc : c < n) : (ahead n c x : Int) = ((x : Int) - c) % n := by
  have hround : ((x + n - c : Nat) : Int) = (x : Int) - c + n := by omega
  rw [ahead, Int.natCast_emod, hround, Int.add_emod_right]

theorem consumeValid_iff {n drained c v : Nat} (hc : c < n) : consumeValid n drained c v = true ↔
    (v : Int) < n ∧ ((v : Int) - c) % n ≤ ((drained : Int) - c) % n := by
  have hnat : consumeValid n drained c v = true ↔ v < n ∧ ahead n c v ≤ ahead n c drained := by
    simp [consumeValid, ahead]
  rw [hnat, ← ahead_cast v hc, ← ahead_cast drained hc, Int.ofNat_lt, Int.ofNat_le]

theorem bne_eq_decide_ne (x y : Nat) : (x != y) = decide (x ≠ y) := by
  rw [Bool.eq_iff_iff, bne_iff_ne, decide_eq_true_iff]

theorem consumeValue_of_valid {s : State} {st : Station} {v : Word} (hst : s.plan.station = some st)
    (hv : consumeValid st.capacity s.report.drained s.report.consume v.toNat = true) :
    s.consumeValue v = { s with report := { s.report with
      consume := v.toNat, irq := decide (s.report.drained ≠ v.toNat) } } := by
  simp only [State.consumeValue, hst, if_pos hv, State.setIrq, bne_eq_decide_ne]

theorem consumeValue_of_invalid {s : State} {st : Station} {v : Word} (hst : s.plan.station = some st)
    (hv : ¬consumeValid st.capacity s.report.drained s.report.consume v.toNat = true) : s.consumeValue v = s := by
  simp only [State.consumeValue, hst, if_neg hv]

/-- A consume write moves C and IRQ, and goes on like a PLAIN write. -/
theorem exec_consume {w : WriteReq} {s : State} {v : Word} (h : s.Takes w) (hc : s.classify w = .consume v) :
    exec (.consume w) s = .next (finish ((s.consumeValue v).postedOrHeld (.consume v) w)) := by
  refine exec_of_effect (h.present.trans ?_)
  rw [State.decodeWrite, hc]
  exact postWrite_plain (.consume v) nofun nofun w _

/-- Settles O13: the model's distance in naturals is the spec's in integers. -/
theorem consumeMovesTheIndex : Obligations.ConsumeMovesTheIndex := by
  unfold Obligations.ConsumeMovesTheIndex
  intro w s st v h hc hst hconsume _ n c taken
  have htaken : consumeValid st.capacity s.report.drained s.report.consume v.toNat = true ↔ taken :=
    consumeValid_iff hconsume
  rw [exec_consume h hc]
  exact ⟨fun ht => by rw [consumeValue_of_valid hst (htaken.2 ht)],
    fun ht => by rw [consumeValue_of_invalid hst (mt htaken.1 ht)]⟩

/-! ### The bytes of the lines (R185, R189, R195) -/

/-- A whole word at a position of an aligned line enables the four bytes of that position. -/
theorem byteAt_whole {line i : Nat} (d : Word) (hline : line % 32 = 0) (hi : i < 8) (k : Fin 32) :
    WordWrite.byteAt k { addr := line + 4 * i, data := d, be := 15 } =
      if i = k.val / 4 then some (byteOf d (k.val % 4)) else none := by
  have hpos : (line + 4 * i) % 32 / 4 = i := by omega
  have hbe : ∀ j : Fin 4, (15 : BitVec 4).getLsbD j.val = true := by decide
  rw [WordWrite.byteAt, hpos, hbe ⟨k.val % 4, Nat.mod_lt _ (by decide)⟩]
  simp only [and_true, byteOf]

theorem mem_lineWords {line : Nat} {ws : List Word} {y : WordWrite} :
    y ∈ lineWords line ws ↔ ∃ i d, ws[i]? = some d ∧ y = { addr := line + 4 * i, data := d, be := 15 } := by
  simp only [lineWords, List.mem_map, Prod.exists, List.mem_zipIdx_iff_getElem?, @eq_comm _ y]
  exact exists_comm

theorem findSome?_of_unique {α β : Type} {f : α → Option β} {l : List α} {x : α} {v : β} (hx : x ∈ l)
    (hv : f x = some v) (honly : ∀ y ∈ l, ∀ u, f y = some u → u = v) : l.findSome? f = some v := by
  cases hfound : l.findSome? f with
  | none => exact nomatch hv.symm.trans (List.findSome?_eq_none_iff.1 hfound x hx)
  | some u =>
    obtain ⟨y, hy, hu⟩ := List.exists_of_findSome?_eq_some hfound
    rw [honly y hy u hu]

/-- A byte of eight whole words is the byte of the one word at its position. -/
theorem wholeLine_byte {line : Nat} {ws : List Word} (hline : line % 32 = 0) (hlen : ws.length = 8) (source : Source)
    (header : Option Nat) (k : Fin 32) :
    (wholeLine line ws source header).bytes[k] = some (byteOf (ws.getD (k.val / 4) 0) (k.val % 4)) := by
  have hk : k.val / 4 < 8 := by omega
  rw [wholeLine, gather_getElem, List.getD_eq_getElem?_getD, List.getElem?_eq_getElem (hlen ▸ hk), Option.getD_some]
  refine findSome?_of_unique (List.mem_reverse.2 (mem_lineWords.2 ⟨_, _, List.getElem?_eq_getElem (hlen ▸ hk), rfl⟩))
    ((byteAt_whole _ hline hk k).trans (if_pos rfl)) fun y hy u hu => ?_
  obtain ⟨i, d, hd, rfl⟩ := mem_lineWords.1 (List.mem_reverse.1 hy)
  obtain ⟨hi, rfl⟩ := List.getElem?_eq_some_iff.1 hd
  rw [byteAt_whole _ hline (hlen ▸ hi) k, Option.ite_none_right_eq_some] at hu
  obtain ⟨rfl, hu⟩ := hu
  exact (Option.some_inj.1 hu).symm

theorem words_length (r : Record) (d : Bool) : (r.words d).length = 8 := by
  cases r <;> rfl

theorem recordWrite_byte {st : Station} (hbase : st.reportBase % 32 = 0) (p : Nat) (r : Record) (d : Bool) {i j : Nat}
    (hi : i < 8) (hj : j < 4) :
    (recordWrite st p r d).bytes[4 * i + j]? = some (some (byteOf ((r.words d).getD i 0) j)) := by
  have hk : 4 * i + j < 32 := by omega
  have hpos : (4 * i + j) / 4 = i := by omega
  have hplace : (4 * i + j) % 4 = j := by omega
  have hbyte := wholeLine_byte (line := st.reportBase + 32 + 32 * p) (by omega) (words_length r d) .report none
    ⟨4 * i + j, hk⟩
  rw [hpos, hplace] at hbyte
  exact (Vector.getElem?_eq_getElem hk).trans (congrArg some hbyte)

/-- A header write after a record carries the produce index in word 0, and no other byte. -/
theorem headerWrite_byte (base p : Nat) (live : Bool) (k : Fin 32) : (headerWrite base p live).bytes[k] =
    if k.val < 4 then some (byteOf (BitVec.ofNat 32 p) k.val) else none := by
  have hbytes : (headerWrite base p live).bytes = wordBytes (wordPos 0) (BitVec.ofNat 32 p) 15 := rfl
  have hword := byteAt_whole (line := 0) (i := 0) (BitVec.ofNat 32 p) rfl (by decide) k
  rw [hbytes]
  refine (wordBytes_getElem { addr := 0, data := BitVec.ofNat 32 p, be := 15 } k).trans (hword.trans ?_)
  by_cases hk : k.val < 4
  · rw [if_pos hk, if_pos (by omega), Nat.mod_eq_of_lt hk]
  · rw [if_neg hk, if_neg (by omega)]

theorem newHeaderWrite_byte {base : Nat} (hbase : base % 32 = 0) (k : Fin 32) :
    (newHeaderWrite base).bytes[k] = some 0 := by
  have hzero : (List.replicate 8 (0 : Word)).getD (k.val / 4) 0 = 0 := by
    rw [List.getD_eq_getElem?_getD, List.getElem?_replicate]
    split <;> rfl
  refine (wholeLine_byte hbase List.length_replicate .report (some 0) k).trans ?_
  rw [hzero]
  simp [byteOf]

/-! ### The words of a record (R197, Tables 11-7 and 11-8) -/

/-- Fields side by side count as the sum of their weights. -/
theorem toNat_append_add {n m : Nat} (x : BitVec n) (y : BitVec m) : (x ++ y).toNat = x.toNat * 2 ^ m + y.toNat := by
  rw [BitVec.toNat_append, ← Nat.shiftLeft_add_eq_or_of_lt y.isLt, Nat.shiftLeft_eq]

theorem word0_bits {kind slot index : Nat} (dropped : Bool) (hkind : kind < 256) (hslot : slot < 4) (hindex : index < 64) :
    BitVec.ofNat 32 (kind + dropped.toNat * 2 ^ 15 + slot * 2 ^ 16 + index * 2 ^ 24) =
      0#2 ++ BitVec.ofNat 6 index ++ 0#6 ++ BitVec.ofNat 2 slot ++ BitVec.ofBool dropped ++ 0#7 ++ BitVec.ofNat 8 kind := by
  have hdropped := dropped.toNat_lt
  refine BitVec.eq_of_toNat_eq ?_
  simp only [toNat_append_add, BitVec.toNat_ofNat, BitVec.toNat_ofBool]
  omega

theorem tileDone_bits {taken retries waits : Nat} (skipped : Bool) (htaken : taken < 8) (hretries : retries < 4)
    (hwaits : waits < 256) :
    BitVec.ofNat 32 (taken + skipped.toNat * 2 ^ 3 + retries * 2 ^ 8 + waits * 2 ^ 16) =
      0#8 ++ BitVec.ofNat 8 waits ++ 0#6 ++ BitVec.ofNat 2 retries ++ 0#4 ++ BitVec.ofBool skipped
        ++ BitVec.ofNat 3 taken := by
  have hskipped := skipped.toNat_lt
  refine BitVec.eq_of_toNat_eq ?_
  simp only [toNat_append_add, BitVec.toNat_ofNat, BitVec.toNat_ofBool]
  omega

theorem tileFault_bits {e retries : Nat} (number : BitVec 3) (final : Bool) (he : e < 4) (hretries : retries < 4) :
    BitVec.ofNat 32 (e + number.toNat * 2 ^ 8 + retries * 2 ^ 16 + final.toNat * 2 ^ 24) =
      0#7 ++ BitVec.ofBool final ++ 0#6 ++ BitVec.ofNat 2 retries ++ 0#5 ++ number ++ 0#6 ++ BitVec.ofNat 2 e := by
  have hnumber := number.isLt
  have hfinal := final.toNat_lt
  refine BitVec.eq_of_toNat_eq ?_
  simp only [toNat_append_add, BitVec.toNat_ofNat, BitVec.toNat_ofBool]
  omega

theorem counts_bits {done failed : Nat} (hdone : done < 128) (hfailed : failed < 128) :
    BitVec.ofNat 32 (done + failed * 2 ^ 16) = 0#9 ++ BitVec.ofNat 7 failed ++ 0#9 ++ BitVec.ofNat 7 done := by
  refine BitVec.eq_of_toNat_eq ?_
  simp only [toNat_append_add, BitVec.toNat_ofNat]
  omega

theorem staleRead_bits (m : Master) (number : BitVec 2) :
    BitVec.ofNat 32 (m.val + number.toNat * 2 ^ 8) = 0#22 ++ number ++ 0#6 ++ BitVec.ofNat 2 m.val := by
  have hm := m.isLt
  have hnumber := number.isLt
  refine BitVec.eq_of_toNat_eq ?_
  simp only [toNat_append_add, BitVec.toNat_ofNat]
  omega

/-- A number in the low bits of a word. -/
theorem low_bits {n m x : Nat} (hx : x < 2 ^ m) : BitVec.ofNat (n + m) x = 0#n ++ BitVec.ofNat m x := by
  refine BitVec.eq_of_toNat_eq ?_
  have hle : 2 ^ m ≤ 2 ^ (n + m) := Nat.pow_le_pow_right (by decide) (by omega)
  simp only [toNat_append_add, BitVec.toNat_ofNat, Nat.zero_mod, Nat.zero_mul, Nat.zero_add, Nat.mod_eq_of_lt hx,
    Nat.mod_eq_of_lt (Nat.lt_of_lt_of_le hx hle)]

theorem bool_bits (b : Bool) : BitVec.ofNat 32 b.toNat = 0#31 ++ BitVec.ofBool b := by
  cases b <;> rfl

theorem ofNat_toNat_word (x : Word) : BitVec.ofNat 32 x.toNat = x := by
  rw [BitVec.ofNat_toNat, BitVec.setWidth_eq]

theorem pairWord_none {stats : List (Nat × Nat)} {e : Nat} (h : stats[e]? = none) : pairWord stats stats.length e = 0 :=
  if_neg (Nat.not_lt.2 (List.getElem?_eq_none_iff.1 h))

theorem pairWord_bits {stats : List (Nat × Nat)} {e dark clip : Nat} (h : stats[e]? = some (dark, clip))
    (hdark : dark < 65536) :
    BitVec.ofNat 32 (pairWord stats stats.length e) = BitVec.ofNat 16 clip ++ BitVec.ofNat 16 dark := by
  obtain ⟨he, -⟩ := List.getElem?_eq_some_iff.1 h
  have hpair : pairWord stats stats.length e = dark + clip * 2 ^ 16 := by
    rw [pairWord, if_pos he, List.getD_eq_getElem?_getD, h, Option.getD_some]
  rw [hpair]
  refine BitVec.eq_of_toNat_eq ?_
  simp only [toNat_append_add, BitVec.toNat_ofNat]
  omega

theorem resultWord_bits {kind detail : Nat} {code : Code} {number : BitVec 8} (hnumber : code.number = number.toNat) :
    resultWord kind code detail = (1#1 ++ 0#7 ++ BitVec.ofNat 8 detail ++ number ++ BitVec.ofNat 8 kind : Word) := by
  have hlt := number.isLt
  rw [resultWord, hnumber]
  refine BitVec.eq_of_toNat_eq ?_
  simp only [toNat_append_add, BitVec.toNat_ofNat]
  omega

theorem words_eq (r : Record) (d : Bool) :
    r.words d = BitVec.ofNat 32 (r.kind + d.toNat * 2 ^ 15 + r.place.1 * 2 ^ 16 + r.place.2 * 2 ^ 24)
      :: r.body.map (BitVec.ofNat 32) := rfl

/-- Settles O24: a line's bytes by the word at their position, and each word by the fields that it is the sum of. -/
theorem reportLinesCarryTheirWords : Obligations.ReportLinesCarryTheirWords := by
  unfold Obligations.ReportLinesCarryTheirWords
  refine ⟨fun st p r d i j hi hj hbase => ⟨rfl, rfl, rfl, rfl, recordWrite_byte hbase p r d hi hj⟩,
    fun base p live k => ⟨rfl, rfl, rfl, rfl, headerWrite_byte base p live k⟩,
    fun base k hbase => ⟨rfl, rfl, rfl, rfl, newHeaderWrite_byte hbase k⟩, ?records, ?result⟩
  case result =>
    intro kind detail code _ _ number
    have hnumber : code.number = number.toNat := by cases code <;> rfl
    exact resultWord_bits hnumber
  case records =>
    intro word0 counts
    have hword0 : ∀ {kind slot index : Nat} (d : Bool), kind < 256 → slot < 4 → index < 64 →
        BitVec.ofNat 32 (kind + d.toNat * 2 ^ 15 + slot * 2 ^ 16 + index * 2 ^ 24) = word0 kind d slot index :=
      fun d => word0_bits d
    have hcounts : ∀ {done failed : Nat}, done < 128 → failed < 128 →
        BitVec.ofNat 32 (done + failed * 2 ^ 16) = counts done failed := counts_bits
    refine ⟨?tileDone, ?tileFault, ?plate, ?master, ?stray, ?cut, ?encoder, ?memory⟩
    case tileDone =>
      intro slot index tag taken skipped retries waits stats heat d hindex htaken hretries hwaits hheat hstats hlength pair
      have hpair : ∀ e, BitVec.ofNat 32 (pairWord stats taken e) = pair e := fun e => by
        cases he : stats[e]? with
        | none => simp only [pair, he, ← hlength, pairWord_none he]; rfl
        | some x =>
          obtain ⟨hdark, -⟩ := hstats x (List.mem_of_getElem? he)
          simp only [pair, he, ← hlength, pairWord_bits he hdark]
      simp only [words_eq, Record.kind, Record.place, Record.body, List.map_cons, List.map_nil, ofNat_toNat_word, hpair]
      rw [hword0 d (by decide) slot.isLt hindex, tileDone_bits skipped htaken hretries hwaits,
        low_bits (n := 16) (m := 16) hheat]
    case tileFault =>
      intro slot index tag e reason retries final d hindex he hretries number
      have hnumber : reason.number = number.toNat := by cases reason <;> rfl
      simp only [words_eq, Record.kind, Record.place, Record.body, List.map_cons, List.map_nil, ofNat_toNat_word]
      rw [hword0 d (by decide) slot.isLt hindex, hnumber, tileFault_bits number final he hretries]
      rfl
    case plate =>
      intro slot tag done failed d hdone hfailed
      simp only [words_eq, Record.kind, Record.place, Record.body, List.map_cons, List.map_nil, ofNat_toNat_word]
      rw [hword0 d (by decide) slot.isLt (by decide), hword0 d (by decide) slot.isLt (by decide), hcounts hdone hfailed]
      exact ⟨rfl, rfl⟩
    case master =>
      intro m line cause d number
      have hnumber : cause.number = number.toNat := by cases cause <;> rfl
      simp only [words_eq, Record.kind, Record.place, Record.body, List.map_cons, List.map_nil]
      rw [hword0 d (by decide) (by decide) (by decide), hword0 d (by decide) (by decide) (by decide), hnumber,
        staleRead_bits m number, low_bits (n := 30) (m := 2) m.isLt]
      exact ⟨rfl, rfl⟩
    case stray =>
      intro count d
      simp only [words_eq, Record.kind, Record.place, Record.body, List.map_cons, List.map_nil]
      rw [hword0 d (by decide) (by decide) (by decide)]
      rfl
    case cut =>
      intro level heat d hheat
      simp only [words_eq, Record.kind, Record.place, Record.body, List.map_cons, List.map_nil]
      rw [hword0 d (by decide) (by decide) (by decide), bool_bits level, low_bits (n := 16) (m := 16) hheat]
      rfl
    case encoder =>
      intro ax pos d
      simp only [words_eq, Record.kind, Record.place, Record.body, List.map_cons, List.map_nil, ofNat_toNat_word]
      rw [hword0 d (by decide) (by decide) (by decide)]
      cases ax <;> rfl
    case memory =>
      intro line source d _
      simp only [words_eq, Record.kind, Record.place, Record.body, List.map_cons, List.map_nil]
      rw [hword0 d (by decide) (by decide) (by decide)]
      cases source <;> rfl

end Sys2Proof.Machine
end

section
/-! PROOFS. The interface (0.3): a step runs the front command (O1), and every command and every step answers with a next
state, a command with the queue's rest as it was (O2). -/

namespace Sys2Proof.Machine

section
variable (s : State)

/-! ### The queue's rest: requests and responses (05, 06) -/

theorem decodeWrite_pending (w : WriteReq) : (s.decodeWrite w).pending = s.pending := by
  unfold State.decodeWrite
  split
  · dsimp only
    split <;> simp
  all_goals simp

theorem presentWrite_pending (w : WriteReq) : (s.presentWrite w).pending = s.pending := by
  unfold State.presentWrite
  split_ifs
  · rfl
  · rfl
  · rfl
  · exact decodeWrite_pending s w

theorem presentRead_pending (r : ReadReq) : (s.presentRead r).pending = s.pending := by
  have hdecode : (s.decodeRead r).pending = s.pending := by
    unfold State.decodeRead
    dsimp only
    split <;> simp
  unfold State.presentRead
  split_ifs
  · rfl
  · rfl
  · exact hdecode

theorem heldWriteEntry_pending : (heldWriteEntry s).pending = s.pending := by
  unfold heldWriteEntry
  split
  · rfl
  · dsimp only
    split
    · split <;> simp
    · rfl

theorem drainResponds_pending (st : DownStatus) : (s.drainResponds st).pending = s.pending := by
  unfold State.drainResponds
  split
  · rfl
  · split
    · unfold State.retired
      dsimp only
      split <;> simp
    · rfl

theorem readResponds_pending (m : Master) (st : DownStatus) (d : List Word) :
    (s.readResponds m st d).pending = s.pending := by
  unfold State.readResponds
  split
  · rfl
  · cases st <;> rfl

theorem fetchResponds_pending (st : DownStatus) (d : List Word) : (s.fetchResponds st d).pending = s.pending := by
  unfold State.fetchResponds
  split
  · cases st with
    | fault => rfl
    | ok =>
      simp only [State.postRead, State.lineRead]
      split
      · split <;> rfl
      · split <;> rfl
  · rfl

theorem responds_pending (id : Ident) (st : DownStatus) (d : List Word) : (s.responds id st d).pending = s.pending := by
  cases id with
  | master m => exact readResponds_pending s m st d
  | fetch => exact fetchResponds_pending s st d
  | drain => exact drainResponds_pending s st

/-! ### The queue's rest: the sequencer and the lamp (03, 08) -/

theorem settleExpiry_pending : (settleExpiry s).pending = s.pending := by
  unfold settleExpiry
  split
  · split <;> simp
  · rfl

theorem triggerPulseEnd_pending : (triggerPulseEnd s).pending = s.pending := by
  unfold triggerPulseEnd
  split <;> rfl

theorem deferredTrigger_pending : (deferredTrigger s).pending = s.pending := by
  unfold deferredTrigger
  split
  · rfl
  · split <;> simp

theorem exposureTimerExpiry_pending : (exposureTimerExpiry s).pending = s.pending := by
  unfold exposureTimerExpiry
  split
  · rfl
  · split <;> simp

theorem periodEnd_pending : (periodEnd s).pending = s.pending := by
  unfold periodEnd
  split <;> simp

/-! ### The queue's rest: the stage and CUT (07, 08 8.7) -/

theorem checkTolerance_pending (ax : Axis) : (s.checkTolerance ax).pending = s.pending := by
  unfold State.checkTolerance
  split <;> simp

theorem decodeAxis_pending (ax : Axis) : (s.decodeAxis ax).pending = s.pending := by
  unfold State.decodeAxis
  dsimp only
  split
  · rfl
  · simp [checkTolerance_pending]
  · simp [checkTolerance_pending]
  · split <;> simp

theorem homeEdge_pending (ax : Axis) : (homeEdge ax s).pending = s.pending := by
  unfold homeEdge
  split
  · rfl
  · dsimp only
    split <;> simp

/-- Every completed edge of a line, those of a command and those that a station acceptance completes. -/
theorem lineEvent_pending (c : Instr) : (lineEvent c s).pending = s.pending := by
  unfold lineEvent
  split
  · exact decodeAxis_pending _ _
  · exact decodeAxis_pending _ _
  · exact homeEdge_pending s _
  · unfold fallingHomeEdge
    split <;> rfl
  · unfold cutRise
    split <;> simp
  · unfold cutFall
    split <;> simp
  · rfl

theorem dwellExpiry_pending : (dwellExpiry s).pending = s.pending := by
  unfold dwellExpiry
  split <;> rfl

/-! ### The queue's rest: plan records (09) -/

theorem completeFilters_pending : s.completeFilters.pending = s.pending :=
  foldl_keeps State.pending _ (fun u c => by simp [lineEvent_pending]) _ _

theorem acceptStation_pending (st : Station) : (s.acceptStation st).pending = s.pending := by
  unfold State.acceptStation State.lampStation
  simp [completeFilters_pending]

theorem stationRecord_pending : (stationRecord s).pending = s.pending := by
  unfold stationRecord
  split
  · rfl
  · dsimp only
    split
    · simp
    · split_ifs <;> simp [acceptStation_pending]

theorem plateRecord_pending : (plateRecord s).pending = s.pending := by
  unfold plateRecord
  repeat' split
  all_goals simp

theorem retakeRecord_pending : (retakeRecord s).pending = s.pending := by
  unfold retakeRecord
  repeat' split
  all_goals simp

theorem dismissRecord_pending : (dismissRecord s).pending = s.pending := by
  unfold dismissRecord
  repeat' split
  all_goals simp

/-! ### The queue's rest: the lines of the Report Writer side (10) -/

theorem recordLineEntry_pending : (recordLineEntry s).pending = s.pending := by
  unfold recordLineEntry
  split
  · split <;> rfl
  · rfl

theorem headerLineEntry_pending : (headerLineEntry s).pending = s.pending := by
  unfold headerLineEntry
  split
  · split <;> rfl
  · split <;> rfl
  · rfl

theorem resultWordEntry_pending : (resultWordEntry s).pending = s.pending := by
  unfold resultWordEntry
  repeat' split
  all_goals simp

/-! ### The interface -/

/-- No command's effect touches the queue, a reset's neither (log entry 9). -/
theorem effect_pending (c : Instr) : (effect c s).pending = s.pending := by
  cases c with
  | powerOnReset lines straps => rfl
  | upstreamRequestFault r =>
    cases r with
    | read r => exact presentRead_pending s r
    | write w => exact presentWrite_pending s w
  | post w => exact presentWrite_pending s w
  | withdrawal w => exact presentWrite_pending s w
  | consume w => exact presentWrite_pending s w
  | capture w => exact presentWrite_pending s w
  | heldWrite w => exact presentWrite_pending s w
  | heldRead r => exact presentRead_pending s r
  | plainWrite w => exact presentWrite_pending s w
  | plainRead r => exact presentRead_pending s r
  | heldWriteEntry => exact heldWriteEntry_pending s
  | arbiterGrant => simp [effect]
  | drainRetireOk => exact drainResponds_pending s .ok
  | drainRetireFault => exact drainResponds_pending s .fault
  | upstreamReadResponse m st data => exact readResponds_pending s m st data
  | fetchResponse st data => exact fetchResponds_pending s st data
  | unmatchedResponse id st data => exact responds_pending s id st data
  | station => exact stationRecord_pending s
  | plate => exact plateRecord_pending s
  | retake => exact retakeRecord_pending s
  | dismiss => exact dismissRecord_pending s
  | dismissReservation => simp [effect]
  | resultWordEntry => exact resultWordEntry_pending s
  | recordLineEntry => exact recordLineEntry_pending s
  | headerLineEntry => exact headerLineEntry_pending s
  | arming => simp [effect]
  | periodEnd => exact periodEnd_pending s
  | settleExpiry => exact settleExpiry_pending s
  | triggerPulseEnd => exact triggerPulseEnd_pending s
  | deferredTrigger => exact deferredTrigger_pending s
  | exposureTimerExpiry => exact exposureTimerExpiry_pending s
  | holdTimerExpiry m => simp [effect]
  | validTransition ax line => exact lineEvent_pending s (.validTransition ax line)
  | invalidTransition ax => exact lineEvent_pending s (.invalidTransition ax)
  | homeEdge ax => exact homeEdge_pending s ax
  | dwellExpiry => exact dwellExpiry_pending s
  | cutRise => exact lineEvent_pending s .cutRise
  | cutFall => exact lineEvent_pending s .cutFall
  | idleTimerExpiry => simp [effect]
  | heatTick => simp [effect]
  | fallingHomeEdge ax => exact lineEvent_pending s (.fallingHomeEdge ax)

/-- Nor does anything that follows in its step (log entry 3). -/
theorem finish_pending : (finish s).pending = s.pending :=
  finish_keeps (fun u => u.pending = s.pending) (fun _ _ h => h) (fun c u h => by simp [effect_pending, h])
    (fun u h => by simp [h]) (fun u h => by simp [h]) s (by simp)

theorem exec_next (c : Instr) : ∃ t, exec c s = .next t ∧ t.pending = s.pending :=
  ⟨_, exec_eq c s, (finish_pending _).trans (effect_pending s c)⟩

end

/-- Settles O1: both sides are the front command's effect with all that follows in its step. -/
theorem stepRunsFrontCommand : Obligations.StepRunsFrontCommand := by
  unfold Obligations.StepRunsFrontCommand
  intro c rest s h
  rw [step_pending h, exec_eq]

/-- Settles O2: a command by `exec_next`; a step by what it runs: the front command, the part's own step, or a CLK cycle. -/
theorem everyStepAnswersNext : Obligations.EveryStepAnswersNext := by
  unfold Obligations.EveryStepAnswersNext
  refine ⟨fun c s => exec_next s c, fun s => ?_⟩
  cases hpending : s.pending with
  | cons c rest => exact ⟨_, step_pending hpending⟩
  | nil =>
    cases hown : s.ownStep with
    | none => exact ⟨_, step_cycle hpending hown⟩
    | some c => exact ⟨_, (step_own hpending hown).trans (exec_eq c s)⟩

end Sys2Proof.Machine
end
